-- ==== Sys2Proof/Word.lean ====
section
/-! DEFINITION. Word: the plain types the commands and the state are written in (bytes, tags, lines, pins, error kinds, frames as they stand on a line, claim operands). -/

namespace Sys2Proof

/-- One byte of a host transaction, a value or a frame payload. -/
abbrev Byte := BitVec 8

/-- A tag, mask or out-tag: twelve bits (R9, R179). -/
abbrev Tag := BitVec 12

/-- A point's value: 0 to 8 bytes (R4). An absent value is `none` of `Option Value`. -/
abbrev Value := List Byte

/-- The two field lines (scope, "Lines, tags and masks"). -/
inductive LineId where
  | a
  | b
  deriving DecidableEq, Repr

/-- The other line of a line (scope, "Terms"). -/
def LineId.other : LineId → LineId
  | .a => .b
  | .b => .a

/-- The two event pins (R165). -/
inductive PinId where
  | irq
  | alert
  deriving DecidableEq, Repr

/-- The five errors of R112. -/
inductive ErrorKind where
  | bit
  | pace
  | check
  | form
  | noAck
  deriving DecidableEq, Repr

/-- One thing held once per line. -/
structure PerLine (α : Type) where
  a : α
  b : α
  deriving DecidableEq, Repr

def PerLine.get {α : Type} (p : PerLine α) : LineId → α
  | .a => p.a
  | .b => p.b

def PerLine.set {α : Type} (p : PerLine α) (l : LineId) (x : α) : PerLine α :=
  match l with
  | .a => { p with a := x }
  | .b => { p with b := x }

/-- The content of a frame as it stands on a line: tag, kind number and payload (R95). The kind number
3 and the illegal lengths of R96 can be written down too. -/
structure WireFrame where
  tag : Tag
  kind : BitVec 2
  payload : List Byte
  deriving DecidableEq, Repr

/-- The fourteen operand bytes of CLAIM as they travel (R179, "CLAIM operands"). -/
structure ClaimOperands where
  selector : Byte
  kind : Byte
  tag : BitVec 16
  mask : BitVec 16
  outTag : BitVec 16
  confirm : Byte
  refresh : Byte
  mode : Byte
  period : Byte
  phase : Byte
  options : Byte
  deriving DecidableEq, Repr

end Sys2Proof
end

