-- ==== Sys2Proof/Config.lean ====
section
/-! DEFINITION. Config: the numbers the part fixes. The spec leaves no value open, so there is no free value here. -/

namespace Sys2Proof.Config

/-- Recessive bits of an idle sequence (R101). -/
abbrev idleBits : Nat := 12
/-- Intermission bits after an end field (R94). -/
abbrev intermissionBits : Nat := 4
/-- Bits of an error flag (R113). -/
abbrev flagBits : Nat := 8
/-- The level of R125 between ACTIVE and GUARDED. -/
abbrev guardedLevel : Nat := 100
/-- The transmit count that makes a line OFF (R128). -/
abbrev offLevel : Nat := 200
/-- The ceiling of the receive count (R123). -/
abbrev receiveCeiling : Nat := 127
/-- What an error as sender adds to the transmit count (R123). -/
abbrev transmitErrorCost : Nat := 6
/-- Idle sequences of an OFF recovery (R129, R130). -/
abbrev recoveryLength : Nat := 64
/-- The hold-off count that the first boundary after UNSYNCED sets (R145). -/
abbrev holdOffStart : Nat := 3
/-- The ceiling of an age (R5). -/
abbrev ageCeiling : Nat := 255
/-- CLKIN periods in one millisecond, at 16 MHz (R178). -/
abbrev clkinPerMs : Nat := 16000

end Sys2Proof.Config
end

