-- ==== Sys2Proof/Syntax.lean ====
section
/-! DEFINITION. Syntax: the commands of the part, one constructor per row of spec/opcode_table.json. Host requests carry their operand bytes as they travel and the number of filler bytes clocked after them (R172). -/

namespace Sys2Proof

/-- The commands: everything that reaches the part as one event (95_what_each_step_holds.md). -/
inductive Instr where
  /-- R20 -/
  | powerOn
  /-- R174: nRST driven low. -/
  | nrstAssert
  /-- R20, R174: nRST released; `ncsLow` says whether nCS is low at that moment. -/
  | nrstRelease (ncsLow : Bool)
  /-- R170: a transaction with no rising SCK edge. -/
  | emptyTransaction
  /-- R172: a transaction given by its complete bytes and the rising edges after the last of them. -/
  | transactionRejected (bytes : List Byte) (edges : Fin 8)
  /-- R175 -/
  | nop (filler : Nat)
  /-- R9 to R12 -/
  | claim (operands : ClaimOperands) (filler : Nat)
  /-- R14, R15 -/
  | retire (index : Byte) (filler : Nat)
  /-- R28 -/
  | read (index : Byte) (filler : Nat)
  /-- R25 -/
  | lookup (line : Byte) (side : Byte) (tag : BitVec 16) (filler : Nat)
  /-- R56 to R58 -/
  | set (index : Byte) (length : Byte) (value : Vector Byte 8) (filler : Nat)
  /-- R70 -/
  | publish (index : Byte) (filler : Nat)
  /-- R71 -/
  | hold (index : Byte) (filler : Nat)
  /-- R72 -/
  | release (index : Byte) (filler : Nat)
  /-- R50 -/
  | ask (index : Byte) (filler : Nat)
  /-- R159 -/
  | take (filler : Nat)
  /-- R164 -/
  | events (filler : Nat)
  /-- R164, R181 -/
  | ackEvents (mask0 : Byte) (mask1 : Byte) (mask2 : Byte) (filler : Nat)
  /-- R176 -/
  | line (line : Byte) (filler : Nat)
  /-- R119 -/
  | attach (line : Byte) (filler : Nat)
  /-- R121 -/
  | detach (line : Byte) (filler : Nat)
  /-- R184 -/
  | settingWrite (item : Byte) (value : BitVec 16) (filler : Nat)
  /-- R184 -/
  | settingRead (item : Byte) (filler : Nat)
  /-- R185 -/
  | apply (filler : Nat)
  /-- R177 -/
  | clear (filler : Nat)
  /-- R21: a good DATA frame. -/
  | dataFrame (line : LineId) (tag : Tag) (payload : List Byte)
  /-- R67: a good QUERY frame with a non-zero tag. -/
  | queryFrame (line : LineId) (tag : Tag)
  /-- R68: a good QUERY frame with tag 0. -/
  | recallFrame (line : LineId)
  /-- R144: a good BEACON, with its two payload bytes. -/
  | beaconFrame (line : LineId) (address : Byte) (cycle : Byte)
  /-- R96: a well-formed frame that carries nothing usable. -/
  | discardedFrame (line : LineId) (frame : WireFrame)
  /-- R114: an error detected as receiver. -/
  | receiveError (line : LineId) (kind : ErrorKind)
  /-- R133 -/
  | transmitSelection (line : LineId)
  /-- R110 -/
  | transmitSuccess (line : LineId)
  /-- R104 -/
  | arbitrationLoss (line : LineId)
  /-- R103 -/
  | startCollision (line : LineId)
  /-- R114: an error detected as sender. -/
  | transmitError (line : LineId) (kind : ErrorKind)
  /-- R101 -/
  | idleSequence (line : LineId)
  /-- R149 -/
  | periodExpiry (line : LineId)
  /-- R147 -/
  | watchExpiry (line : LineId)
  /-- R167 -/
  | repulseWindowEnd (pin : PinId)
  /-- R174: the end of a transaction that nRST cut or that began before the release. -/
  | transactionAcrossReset
  deriving DecidableEq, Repr

end Sys2Proof
end

