-- ==== Sys2Proof/WellFormed.lean ====
section
/-! DEFINITION. WellFormed: which command terms are events of their own row. The machine runs every term; a term that is not well formed is a frame or an error of another row, or none (log 3, log 8). -/

namespace Sys2Proof

/-- R96: the tags and lengths a frame of each kind may carry; anything else is a FORM error. -/
def WireFrame.legal (w : WireFrame) : Bool :=
  match w.kind with
  | 0 => w.tag == 0 && w.payload.length == 2
  | 1 => w.payload.isEmpty
  | 2 => decide (w.payload.length ≤ 8)
  | _ => false

/-- R96: a BEACON's address is 1 to 63 and its cycle byte 0 to 15. -/
def beaconInRange (address cycle : Byte) : Bool :=
  decide (1 ≤ address.toNat) && decide (address.toNat ≤ 63) && decide (cycle.toNat ≤ 15)

/-- R96: well formed at line level but carrying nothing usable. -/
def WireFrame.unusable (w : WireFrame) : Bool :=
  w.legal &&
    match w.kind, w.payload with
    | 2, _ => w.tag == 0
    | 0, [address, cycle] => !beaconInRange address cycle
    | _, _ => false

/-- R112: the errors a receiver detects. -/
def ErrorKind.ofReceiver : ErrorKind → Bool
  | .pace => true
  | .check => true
  | .form => true
  | .bit => false
  | .noAck => false

/-- R112: the errors a sender detects. -/
def ErrorKind.ofSender : ErrorKind → Bool
  | .bit => true
  | .pace => true
  | .form => true
  | .noAck => true
  | .check => false

/-- A term that is an event of the row its constructor names. -/
def Instr.wf : Instr → Bool
  | .dataFrame _ tag payload => tag != 0 && decide (payload.length ≤ 8)
  | .queryFrame _ tag => tag != 0
  | .beaconFrame _ address cycle => beaconInRange address cycle
  | .discardedFrame _ frame => frame.unusable
  | .receiveError _ kind => kind.ofReceiver
  | .transmitError _ kind => kind.ofSender
  | .powerOn | .nrstAssert | .nrstRelease _ | .emptyTransaction | .transactionRejected _ _ => true
  | .nop _ | .claim _ _ | .retire _ _ | .read _ _ | .lookup _ _ _ _ | .set _ _ _ _ => true
  | .publish _ _ | .hold _ _ | .release _ _ | .ask _ _ | .take _ | .events _ => true
  | .ackEvents _ _ _ _ | .line _ _ | .attach _ _ | .detach _ _ => true
  | .settingWrite _ _ _ | .settingRead _ _ | .apply _ | .clear _ => true
  | .recallFrame _ | .transmitSelection _ | .transmitSuccess _ | .arbitrationLoss _ | .startCollision _ => true
  | .idleSequence _ | .periodExpiry _ | .watchExpiry _ | .repulseWindowEnd _ => true
  | .transactionAcrossReset => true

end Sys2Proof
end

