-- ==== Sys2Proof/Decode.lean ====
section
/-! DEFINITION. Decode: the host's requests as bytes (R179, "Request codes and lengths"): the request codes, the decoder from a transaction's bytes, and an encoder from the same table. The rows of spec/opcode_table.json give no bits, so decodeTableWord spells no command. -/

namespace Sys2Proof

/-- The twenty requests of the host port with their operands as they travel (R179). -/
inductive Request where
  | nop
  | claim (operands : ClaimOperands)
  | retire (index : Byte)
  | read (index : Byte)
  | lookup (line : Byte) (side : Byte) (tag : BitVec 16)
  | set (index : Byte) (length : Byte) (value : Vector Byte 8)
  | publish (index : Byte)
  | hold (index : Byte)
  | release (index : Byte)
  | ask (index : Byte)
  | take
  | events
  | ackEvents (mask0 : Byte) (mask1 : Byte) (mask2 : Byte)
  | line (line : Byte)
  | attach (line : Byte)
  | detach (line : Byte)
  | settingWrite (item : Byte) (value : BitVec 16)
  | settingRead (item : Byte)
  | apply
  | clear
  deriving DecidableEq, Repr

/-- A two-byte field, most significant byte first (R179). -/
def word16 (high low : Byte) : BitVec 16 := high ++ low

/-- The two bytes of a 16-bit field, most significant first (R179). -/
def bytes16 (w : BitVec 16) : List Byte := [w.extractLsb' 8 8, w.extractLsb' 0 8]

/-- The request length, code byte included, for each code; none for a byte that is no code (R179). -/
def requestLength (code : Byte) : Option Nat :=
  match code.toNat with
  | 0x00 => some 1
  | 0x10 => some 15
  | 0x11 => some 2
  | 0x12 => some 2
  | 0x13 => some 5
  | 0x20 => some 11
  | 0x21 => some 2
  | 0x22 => some 2
  | 0x23 => some 2
  | 0x24 => some 2
  | 0x30 => some 1
  | 0x31 => some 1
  | 0x32 => some 4
  | 0x40 => some 2
  | 0x41 => some 2
  | 0x42 => some 2
  | 0x50 => some 4
  | 0x51 => some 2
  | 0x52 => some 1
  | 0x5A => some 1
  | _ => none

/-- The request that a transaction's bytes spell; bytes after the request's own are filler (R172). None
where the first byte is no code or operand bytes are missing. -/
def decodeRequest : List Byte → Option Request
  | [] => none
  | code :: rest =>
    match code.toNat, rest with
    | 0x00, _ => some .nop
    | 0x10, b0 :: b1 :: b2 :: b3 :: b4 :: b5 :: b6 :: b7 :: b8 :: b9 :: b10 :: b11 :: b12 :: b13 :: _ =>
      some (.claim { selector := b0, kind := b1, tag := word16 b2 b3, mask := word16 b4 b5, outTag := word16 b6 b7,
                     confirm := b8, refresh := b9, mode := b10, period := b11, phase := b12, options := b13 })
    | 0x11, i :: _ => some (.retire i)
    | 0x12, i :: _ => some (.read i)
    | 0x13, l :: side :: t1 :: t0 :: _ => some (.lookup l side (word16 t1 t0))
    | 0x20, i :: n :: v0 :: v1 :: v2 :: v3 :: v4 :: v5 :: v6 :: v7 :: _ =>
      some (.set i n #v[v0, v1, v2, v3, v4, v5, v6, v7])
    | 0x21, i :: _ => some (.publish i)
    | 0x22, i :: _ => some (.hold i)
    | 0x23, i :: _ => some (.release i)
    | 0x24, i :: _ => some (.ask i)
    | 0x30, _ => some .take
    | 0x31, _ => some .events
    | 0x32, m0 :: m1 :: m2 :: _ => some (.ackEvents m0 m1 m2)
    | 0x40, l :: _ => some (.line l)
    | 0x41, l :: _ => some (.attach l)
    | 0x42, l :: _ => some (.detach l)
    | 0x50, item :: v1 :: v0 :: _ => some (.settingWrite item (word16 v1 v0))
    | 0x51, item :: _ => some (.settingRead item)
    | 0x52, _ => some .apply
    | 0x5A, _ => some .clear
    | _, _ => none

/-- The request code of a request (R179). -/
def Request.code : Request → Byte
  | .nop => 0x00
  | .claim _ => 0x10
  | .retire _ => 0x11
  | .read _ => 0x12
  | .lookup _ _ _ => 0x13
  | .set _ _ _ => 0x20
  | .publish _ => 0x21
  | .hold _ => 0x22
  | .release _ => 0x23
  | .ask _ => 0x24
  | .take => 0x30
  | .events => 0x31
  | .ackEvents _ _ _ => 0x32
  | .line _ => 0x40
  | .attach _ => 0x41
  | .detach _ => 0x42
  | .settingWrite _ _ => 0x50
  | .settingRead _ => 0x51
  | .apply => 0x52
  | .clear => 0x5A

/-- The operand bytes of a request (R179). -/
def Request.operandBytes : Request → List Byte
  | .nop => []
  | .claim op =>
    [op.selector, op.kind] ++ bytes16 op.tag ++ bytes16 op.mask ++ bytes16 op.outTag ++
      [op.confirm, op.refresh, op.mode, op.period, op.phase, op.options]
  | .retire i => [i]
  | .read i => [i]
  | .lookup l side tag => [l, side] ++ bytes16 tag
  | .set i n v => [i, n] ++ v.toList
  | .publish i => [i]
  | .hold i => [i]
  | .release i => [i]
  | .ask i => [i]
  | .take => []
  | .events => []
  | .ackEvents m0 m1 m2 => [m0, m1, m2]
  | .line l => [l]
  | .attach l => [l]
  | .detach l => [l]
  | .settingWrite item value => [item] ++ bytes16 value
  | .settingRead item => [item]
  | .apply => []
  | .clear => []

/-- The bytes of a request: its code and its operands (R179). -/
def encodeRequest (r : Request) : List Byte := r.code :: r.operandBytes

/-- The request length of R179, code byte included. -/
def Request.length (r : Request) : Nat := (encodeRequest r).length

/-- The response length of R179, status byte included. -/
def Request.responseLength : Request → Nat
  | .claim _ => 2
  | .read _ => 46
  | .lookup _ _ _ => 2
  | .take => 4
  | .events => 4
  | .line _ => 9
  | .settingRead _ => 8
  | .nop | .retire _ | .set _ _ _ | .publish _ | .hold _ | .release _ | .ask _ => 1
  | .ackEvents _ _ _ | .attach _ | .detach _ | .settingWrite _ _ | .apply | .clear => 1

/-- The rows of the opcode table give no bits, so no word spells a command. -/
def decodeTableWord (_nbits _w : Nat) : Option Instr := none

end Sys2Proof
end

