-- ==== Sys2Proof/Machine/State.lean ====
section
/-! DEFINITION. State: everything the spec gives the part, as plain data, its value after reset, and the reasons a step can stop (there is no fault; see NOTES.md). -/

namespace Sys2Proof.Machine

/-- A position of the directory: an entry index (R1). -/
abbrev Index := Fin 64

/-- R3 -/
inductive Kind where
  | input
  | output
  | bridge
  deriving DecidableEq, Repr

/-- The MODE of an OUTPUT entry (R64 to R66). -/
inductive Mode where
  | onChange
  | periodic
  | onQuery
  deriving DecidableEq, Repr

/-- The states of an occupied entry (section 1.3); EMPTY is an absent entry. -/
inductive EntryState where
  | live
  | stale
  | frozen
  | spent
  | retiring
  deriving DecidableEq, Repr

/-- The nine notification causes (R7). -/
inductive Cause where
  | committed
  | superseded
  | stale
  | freshened
  | froze
  | thawed
  | conflict
  | queried
  | published
  deriving DecidableEq, Repr

/-- A set of causes: one membership flag per cause. -/
structure CauseSet where
  committed : Bool := false
  superseded : Bool := false
  stale : Bool := false
  freshened : Bool := false
  froze : Bool := false
  thawed : Bool := false
  conflict : Bool := false
  queried : Bool := false
  published : Bool := false
  deriving DecidableEq, Repr

/-- An unconfirmed value and its run count (R4, R33). -/
structure Candidate where
  value : Value
  run : Nat
  deriving DecidableEq, Repr

/-- An occupied entry (section 1.2). Fields its kind does not carry hold 0, absent or no (log 16). -/
structure Entry where
  state : EntryState
  kind : Kind
  tag : Tag
  mask : Tag
  outTag : Tag
  value : Option Value
  staged : Option Value
  candidate : Option Candidate
  confirm : Nat
  refresh : Nat
  age : Nat
  mode : Mode
  period : Nat
  phase : Nat
  stamp : Option (BitVec 4)
  notify : Bool
  oneShot : Bool
  answersRecall : Bool
  held : Bool
  publishPending : Bool
  askPending : Bool
  inFlight : PerLine Bool
  causes : CauseSet
  deriving DecidableEq, Repr

/-- The 64 positions (R1); `none` is an EMPTY entry. -/
structure Directory where
  slots : List (Option Entry)
  size : slots.length = 64
  deriving DecidableEq, Repr

/-- The assignment of the four banks to lines (R2). -/
structure BankMap where
  bank0 : LineId
  bank1 : LineId
  bank2 : LineId
  bank3 : LineId
  deriving DecidableEq, Repr

/-- R116 -/
inductive LineState where
  | detached
  | joining
  | active
  | guarded
  | off
  deriving DecidableEq, Repr

/-- The owner of a frame in flight (R116, R132). -/
inductive Owner where
  | beacon
  | publish (i : Index)
  | ask (i : Index)
  deriving DecidableEq, Repr

/-- The three frames the part composes (R97). -/
inductive Frame where
  | beacon (address : Nat) (cycle : BitVec 4)
  | query (tag : Tag)
  | data (tag : Tag) (value : Value)
  deriving DecidableEq, Repr

/-- The transmit buffer's frame and its owner (R132, R136). -/
structure Attempt where
  owner : Owner
  frame : Frame
  deriving DecidableEq, Repr

/-- A line controller's state (R116); buffer and frame in flight are the one optional attempt. -/
structure LineCtl where
  state : LineState
  transmitCount : Nat
  receiveCount : Nat
  recovery : Nat
  lastError : Option ErrorKind
  rejoin : Bool
  attempt : Option Attempt
  deriving DecidableEq, Repr

/-- A frame engine's phase with what the engine holds in it (R94, R101, R113). `sending` holds the bits
read back since SOF; `receiving` the bits read since SOF, absent where the model was not given them
(log 11); `flagging` whether the flag is active, the bits before it starts, and its bits sent. -/
inductive Phase where
  | stopped
  | recovering (count : Nat)
  | idle (count : Nat)
  | sending (bits : List Bool)
  | receiving (bits : Option (List Bool))
  | intermission (count : Nat)
  | flagging (active : Bool) (wait : Nat) (sent : Nat)
  deriving DecidableEq, Repr

/-- R138 -/
inductive SyncState where
  | unsynced
  | regaining
  | synced
  | free
  deriving DecidableEq, Repr

/-- R138, R140 -/
inductive Role where
  | follower
  | source
  deriving DecidableEq, Repr

/-- A timer: stopped, or running toward its expiry `interval` CLKIN periods after its start (R138, log 13). -/
inductive Timer where
  | stopped
  | running (interval : Nat)
  deriving DecidableEq, Repr

/-- A cycle unit's state (R138). -/
structure CycleUnit where
  sync : SyncState
  holdOff : Nat
  cycle : BitVec 4
  acting : Role
  fresh : Bool
  due : Bool
  periodTimer : Timer
  watchTimer : Timer
  deriving DecidableEq, Repr

/-- One thing held for each of the seven flags of a line (R162). -/
structure Seven (α : Type) where
  lineState : α
  caution : α
  lineError : α
  syncLost : α
  syncGained : α
  yielded : α
  contested : α
  deriving DecidableEq, Repr

/-- The seven flags of a line (R162). -/
inductive LineFlag where
  | lineState
  | caution
  | lineError
  | syncLost
  | syncGained
  | yielded
  | contested
  deriving DecidableEq, Repr

/-- The seventeen event flags (R162). -/
inductive EventFlag where
  | ofLine (line : LineId) (flag : LineFlag)
  | queueReady
  | applyDone
  | applyFault
  deriving DecidableEq, Repr

/-- The sixteen latched flags (R162); QUEUE_READY is computed from the queue (R163). -/
structure Flags where
  line : PerLine (Seven Bool)
  applyDone : Bool
  applyFault : Bool
  deriving DecidableEq, Repr

/-- R165 -/
inductive Route where
  | none
  | irq
  | alert
  deriving DecidableEq, Repr

/-- The routes of the seventeen flags (R165). -/
structure Routes where
  line : PerLine (Seven Route)
  queueReady : Route
  applyDone : Route
  applyFault : Route
  deriving DecidableEq, Repr

/-- A pin: released, asserted, or held released in a re-pulse window (R165 to R167). -/
inductive PinState where
  | released
  | asserted
  | repulse
  deriving DecidableEq, Repr

structure Pins where
  irq : PinState
  alert : PinState
  deriving DecidableEq, Repr

/-- R93, R183 -/
inductive Rate where
  | kbit20
  | kbit50
  | kbit125
  | kbit250
  deriving DecidableEq, Repr

/-- R139 -/
inductive CycleMode where
  | beaconed
  | free
  deriving DecidableEq, Repr

/-- The items of one line's portion (R183). -/
structure LineSettings where
  rate : Rate
  nodeAddress : Nat
  cycleMode : CycleMode
  role : Role
  cyclePeriod : Nat
  autoRejoin : Bool
  caution : Nat
  deriving DecidableEq, Repr

/-- One copy of every setting item (R183). -/
structure Settings where
  line : PerLine LineSettings
  bankMap : BankMap
  routes : Routes
  deriving DecidableEq, Repr

/-- A pending apply set: its snapshot and the portions still waiting (R185, R186). -/
structure ApplySet where
  values : Settings
  lineWaiting : PerLine Bool
  bankWaiting : Bool
  deriving DecidableEq, Repr

/-- The response statuses (R179, "Status codes"). -/
inductive Status where
  | ok
  | pending
  | busy
  | noSlot
  | occupied
  | duplicate
  | notFound
  | queueEmpty
  | badKind
  | badState
  | badArg
  | framing
  | badRequest
  deriving DecidableEq, Repr

/-- A held response: a status byte and result bytes (R171). -/
structure Response where
  status : Status
  result : List Byte
  deriving DecidableEq, Repr

/-- The host port: the held response, nRST held low, nCS low since before the release of nRST (R171, R174),
and the bits MISO carried in the last transaction (log 6). -/
structure HostPort where
  held : Response
  inReset : Bool
  awaitRise : Bool
  miso : List Bool
  deriving DecidableEq, Repr

/-- One bit of a field line as a frame engine meets it (R93, R103, log 10): whether another node already
drove dominant when the bit began, and the level sampled (true is recessive). -/
structure LineBit where
  line : LineId
  dominantAtStart : Bool
  level : Bool
  deriving DecidableEq, Repr

/-- Reasons a step stops with a fault: none. The spec describes no stop of the part, so nothing raises one. -/
inductive Fault where
  deriving DecidableEq, Repr

/-- Reasons a command has no meaning. -/
inductive Refusal where
  /-- Raised by exec alone for a command without a meaning; safe. No arm raises it in this model. -/
  | notModelled (mnemonic : String)
  deriving DecidableEq, Repr

/-- The part (R116, R138, R157, R162, R171, R183) and the model's own queues of commands and line bits. -/
structure State where
  entries : Directory
  queue : List Index
  line : PerLine LineCtl
  engine : PerLine Phase
  cycle : PerLine CycleUnit
  flags : Flags
  pins : Pins
  staged : Settings
  applied : Settings
  applySet : Option ApplySet
  port : HostPort
  samples : List LineBit
  pending : List Instr
  deriving DecidableEq, Repr

/-- R183: the defaults of a line's items. -/
def LineSettings.default : LineSettings :=
  { rate := .kbit125, nodeAddress := 1, cycleMode := .beaconed, role := .follower, cyclePeriod := 10,
    autoRejoin := false, caution := 80 }

/-- R2 -/
def BankMap.default : BankMap := { bank0 := .a, bank1 := .a, bank2 := .b, bank3 := .b }

/-- R165: LINE_STATE goes to ALERT, the other flags of a line to no pin. -/
def Seven.defaultRoutes : Seven Route :=
  { lineState := .alert, caution := .none, lineError := .none, syncLost := .none, syncGained := .none,
    yielded := .none, contested := .none }

/-- R165 -/
def Routes.default : Routes :=
  { line := { a := .defaultRoutes, b := .defaultRoutes }, queueReady := .irq, applyDone := .none, applyFault := .none }

/-- R183 -/
def Settings.default : Settings :=
  { line := { a := .default, b := .default }, bankMap := .default, routes := .default }

/-- R20: every entry EMPTY. -/
def Directory.empty : Directory := { slots := List.replicate 64 none, size := by decide }

/-- R116, R137 -/
def LineCtl.reset : LineCtl :=
  { state := .detached, transmitCount := 0, receiveCount := 0, recovery := 0, lastError := none, rejoin := false,
    attempt := none }

/-- R138, R155, under the default mode BEACONED and the default role FOLLOWER. -/
def CycleUnit.reset : CycleUnit :=
  { sync := .unsynced, holdOff := 0, cycle := 0, acting := .follower, fresh := false, due := false,
    periodTimer := .stopped, watchTimer := .stopped }

def Seven.clear : Seven Bool :=
  { lineState := false, caution := false, lineError := false, syncLost := false, syncGained := false,
    yielded := false, contested := false }

/-- R168: every latched flag clear. -/
def Flags.clear : Flags := { line := { a := .clear, b := .clear }, applyDone := false, applyFault := false }

/-- R171: the power-on response. -/
def Response.powerOn : Response := { status := .ok, result := [] }

/-- The part right after power-on or nRST (R20, R116, R138, R157, R168, R171, R183). -/
def State.reset : State :=
  { entries := .empty
    queue := []
    line := { a := .reset, b := .reset }
    engine := { a := .stopped, b := .stopped }
    cycle := { a := .reset, b := .reset }
    flags := .clear
    pins := { irq := .released, alert := .released }
    staged := .default
    applied := .default
    applySet := none
    port := { held := .powerOn, inReset := false, awaitRise := false, miso := [] }
    samples := []
    pending := [] }

end Sys2Proof.Machine
end

