-- ==== Sys2Proof/Machine/Bits.lean ====
section
/-! DEFINITION. Bits: a frame as bits on a line (R95 to R100), the checks a receiver and a sender make at each bit (R99, R104, R108 to R112), and the wire form of the frames the part composes (R97). A bit is true for recessive, which stands for 1 (R93). -/

namespace Sys2Proof.Machine

/-- The low `width` bits of a number, most significant first (R93). -/
def natBits : (width : Nat) → Nat → List Bool
  | 0, _ => []
  | w + 1, n => n.testBit w :: natBits w n

/-- The number that bits spell, most significant first. -/
def bitsNat (bits : List Bool) : Nat := bits.foldl (fun acc b => 2 * acc + b.toNat) 0

def byteBits (b : Byte) : List Bool := natBits 8 b.toNat

/-- The content bits before the check: tag, kind, length, payload (R95, R100). -/
def contentBits (w : WireFrame) : List Bool :=
  natBits 12 w.tag.toNat ++ natBits 2 w.kind.toNat ++ natBits 4 w.payload.length ++ w.payload.flatMap byteBits

/-- R100, steps 2 to 4, for one covered bit. -/
def crcStep (register : BitVec 16) (bit : Bool) : BitVec 16 :=
  if register.msb != bit then (register <<< 1) ^^^ 0x1021 else register <<< 1

/-- R100: the check over covered bits. -/
def crc (bits : List Bool) : BitVec 16 := bits.foldl crcStep 0xFFFF

/-- R98: a pace bit, the inverse of the bit before it, after each eighth content bit; `k` content bits
have gone since the last pace bit. -/
def pace : (k : Nat) → List Bool → List Bool
  | _, [] => []
  | k, b :: bs => if k = 7 then b :: (!b) :: pace 0 bs else b :: pace (k + 1) bs

/-- R99: the content bits of a paced region; `k` content bits have gone since the last pace bit. -/
def unpace : (k : Nat) → List Bool → List Bool
  | _, [] => []
  | k, b :: bs => if k = 8 then unpace 0 bs else b :: unpace (k + 1) bs

/-- The bits of the paced region as sent (R98). -/
def regionBits (w : WireFrame) : List Bool :=
  pace 0 (contentBits w ++ natBits 16 (crc (contentBits w)).toNat)

/-- The bits a sender drives after SOF: paced region, ack slot, ack delimiter, end field (R95). -/
def lineBits (w : WireFrame) : List Bool :=
  regionBits w ++ [true, true] ++ List.replicate 8 true

/-- R98: line bits of the paced region of a frame with n payload bytes, 34 + 8n content and 4 + n pace bits. -/
def regionLength (n : Nat) : Nat := 38 + 9 * n

/-- R98, section 5.5: bits on the line from SOF to the last end bit. -/
def frameDuration (n : Nat) : Nat := 49 + 9 * n

/-- R97: the wire form of a frame the part composes. -/
def Frame.wire : Frame → WireFrame
  | .beacon address cycle =>
    { tag := 0, kind := 0, payload := [BitVec.ofNat 8 address, cycle.setWidth 8] }
  | .query tag => { tag := tag, kind := 1, payload := [] }
  | .data tag value => { tag := tag, kind := 2, payload := value }

/-- The record of the frame being read (R94), as views of the bits read since SOF. -/
def readTag (bits : List Bool) : Tag := BitVec.ofNat 12 (bitsNat ((unpace 0 bits).take 12))
def readKind (bits : List Bool) : BitVec 2 := BitVec.ofNat 2 (bitsNat (((unpace 0 bits).drop 12).take 2))
def readLength (bits : List Bool) : Nat := bitsNat (((unpace 0 bits).drop 14).take 4)
def readPayload (bits : List Bool) : List Byte :=
  (List.range (readLength bits)).map fun k => BitVec.ofNat 8 (bitsNat (((unpace 0 bits).drop (18 + 8 * k)).take 8))
def readCheck (bits : List Bool) : Nat := bitsNat (((unpace 0 bits).drop (18 + 8 * readLength bits)).take 16)
/-- The check computed over the covered bits read (R94, R100). -/
def computedCheck (bits : List Bool) : BitVec 16 := crc ((unpace 0 bits).take (18 + 8 * readLength bits))

def readFrame (bits : List Bool) : WireFrame :=
  { tag := readTag bits, kind := readKind bits, payload := readPayload bits }

/-- What a bit tells an engine that is in a frame. -/
inductive Verdict where
  | more
  | error (kind : ErrorKind)
  | lost
  | complete
  deriving DecidableEq, Repr

/-- R112: FORM at the second kind bit. -/
def kindIllegal (bits : List Bool) : Bool :=
  readKind bits == 3 || (readKind bits == 0 && readTag bits != 0)

/-- R96, R112: FORM at the last length bit. -/
def lengthIllegal (bits : List Bool) : Bool :=
  match readKind bits with
  | 0 => readLength bits != 2
  | 1 => readLength bits != 0
  | 2 => decide (8 < readLength bits)
  | _ => false

/-- What a receiver finds at the last of the bits read since SOF (R99, R100, R109, R111, R112). -/
def receiverVerdict (bits : List Bool) : Verdict :=
  let i := bits.length - 1
  let last := bits.getD i true
  let region := regionLength (readLength bits)
  if i < region then
    if i % 9 = 8 then
      if last == bits.getD (i - 1) true then .error .pace else .more
    else if i - i / 9 = 13 && kindIllegal bits then .error .form
    else if i - i / 9 = 17 && lengthIllegal bits then .error .form
    else if i + 1 = region && readCheck bits != (computedCheck bits).toNat then .error .check
    else .more
  else if i = region then .more
  else if last == false then .error .form
  else if i = region + 9 then .complete
  else .more

/-- R104, R106: whether content bit `c` lies in the arbitration span of a sender's frame. -/
def inSpan (w : WireFrame) (c : Nat) : Bool :=
  decide (c < 14) || (w.kind == 0 && decide (c < 18 + 8 * w.payload.length))

/-- What a sender of `w` finds at the last of the bits read back since SOF (R99, R104, R108, R110, R112). -/
def senderVerdict (w : WireFrame) (bits : List Bool) : Verdict :=
  let i := bits.length - 1
  let last := bits.getD i true
  let sent := (lineBits w).getD i true
  let region := regionLength w.payload.length
  if i < region then
    if last == sent then .more
    else if i % 9 = 8 then .error .pace
    else if inSpan w (i - i / 9) && sent then .lost
    else .error .bit
  else if i = region then
    if last then .error .noAck else .more
  else if last == false then .error .form
  else if i = region + 9 then .complete
  else .more

/-- R98, R178: CLKIN periods of one bit. -/
def Rate.clkinPerBit : Rate → Nat
  | .kbit20 => 800
  | .kbit50 => 320
  | .kbit125 => 128
  | .kbit250 => 64

end Sys2Proof.Machine
end

