-- ==== Sys2Proof/Machine/Ops.lean ====
section
/-! DEFINITION. Ops: the named operations over the state: one update per field, the directory's positions, causes and the change queue (R6, R7, R18, R157, R158, R160), and the shared views of lines and cycle units. -/

namespace Sys2Proof.Machine

/-- All positions, lowest index first (R1). -/
abbrev indices : List Index := List.finRange 64

/-! ### Field updates -/

def State.withEntries (s : State) (x : Directory) : State := { s with entries := x }
def State.withQueue (s : State) (x : List Index) : State := { s with queue := x }
def State.withLine (s : State) (l : LineId) (x : LineCtl) : State := { s with line := s.line.set l x }
def State.withEngine (s : State) (l : LineId) (x : Phase) : State := { s with engine := s.engine.set l x }
def State.withCycle (s : State) (l : LineId) (x : CycleUnit) : State := { s with cycle := s.cycle.set l x }
def State.withFlags (s : State) (x : Flags) : State := { s with flags := x }
def State.withPins (s : State) (x : Pins) : State := { s with pins := x }
def State.withStaged (s : State) (x : Settings) : State := { s with staged := x }
def State.withApplied (s : State) (x : Settings) : State := { s with applied := x }
def State.withApplySet (s : State) (x : Option ApplySet) : State := { s with applySet := x }
def State.withPort (s : State) (x : HostPort) : State := { s with port := x }
def State.withSamples (s : State) (x : List LineBit) : State := { s with samples := x }
def State.withPending (s : State) (x : List Instr) : State := { s with pending := x }

/-! ### Banks and home lines -/

/-- R1: entry i belongs to bank i div 16. -/
def bankOf (i : Index) : Fin 4 := ⟨i.val / 16, by omega⟩

def BankMap.get (m : BankMap) (bank : Fin 4) : LineId :=
  match bank with
  | 0 => m.bank0
  | 1 => m.bank1
  | 2 => m.bank2
  | 3 => m.bank3

/-- R2: the line a bank map gives an entry. -/
def BankMap.home (m : BankMap) (i : Index) : LineId := m.get (bankOf i)

/-- R2: the home line under the applied bank map. -/
def State.home (s : State) (i : Index) : LineId := s.applied.bankMap.home i

/-! ### The directory's positions -/

def Directory.get (d : Directory) (i : Index) : Option Entry :=
  d.slots[i.val]'(by rw [d.size]; exact i.isLt)

def Directory.set (d : Directory) (i : Index) (e : Option Entry) : Directory :=
  { slots := d.slots.set i.val e, size := by rw [List.length_set, d.size] }

/-- Every occupied entry replaced by its image. -/
def Directory.map (d : Directory) (f : Index → Entry → Entry) : Directory :=
  { slots := indices.map fun i => (d.get i).map (f i)
    size := by rw [List.length_map, List.length_finRange] }

/-- The occupied entries, lowest index first. -/
def Directory.occupied (d : Directory) : List (Index × Entry) :=
  indices.filterMap fun i => (d.get i).map fun e => (i, e)

def State.entry (s : State) (i : Index) : Option Entry := s.entries.get i

def State.setEntry (s : State) (i : Index) (e : Entry) : State := s.withEntries (s.entries.set i (some e))

/-- R18, R160: the entry loses every field and leaves the change queue; those behind it keep their order. -/
def State.emptyEntry (s : State) (i : Index) : State :=
  (s.withEntries (s.entries.set i none)).withQueue (s.queue.filter fun j => j != i)

/-! ### Causes and the change queue -/

def CauseSet.has (c : CauseSet) : Cause → Bool
  | .committed => c.committed
  | .superseded => c.superseded
  | .stale => c.stale
  | .freshened => c.freshened
  | .froze => c.froze
  | .thawed => c.thawed
  | .conflict => c.conflict
  | .queried => c.queried
  | .published => c.published

def CauseSet.insert (c : CauseSet) : Cause → CauseSet
  | .committed => { c with committed := true }
  | .superseded => { c with superseded := true }
  | .stale => { c with stale := true }
  | .freshened => { c with freshened := true }
  | .froze => { c with froze := true }
  | .thawed => { c with thawed := true }
  | .conflict => { c with conflict := true }
  | .queried => { c with queried := true }
  | .published => { c with published := true }

def CauseSet.nothing : CauseSet := {}

/-- R7: COMMITTED raised where it already stands adds SUPERSEDED. -/
def CauseSet.raise (c : CauseSet) (x : Cause) : CauseSet :=
  match x with
  | .committed => if c.committed then (c.insert .committed).insert .superseded else c.insert .committed
  | x => c.insert x

/-- What one event does to one entry: the entry it leaves and the causes it raises, in order. -/
structure Reaction where
  entry : Entry
  causes : List Cause
  deriving DecidableEq, Repr

/-- An event that leaves an entry as it is. -/
def Entry.unchanged (e : Entry) : Reaction := { entry := e, causes := [] }

/-- R7: no cause is raised on a RETIRING entry. -/
def Reaction.result (r : Reaction) (before : Entry) : Entry :=
  if before.state = .retiring then r.entry
  else { r.entry with causes := r.causes.foldl CauseSet.raise r.entry.causes }

/-- R7, R158: whether the event hands the entry's index to the queue. -/
def Reaction.notifies (r : Reaction) (before : Entry) : Bool :=
  before.notify && before.state != .retiring && !r.causes.isEmpty

/-- The indices an event hands to the queue and the queue does not hold, in ascending order (R158). -/
def State.newlyQueued (s : State) (f : Index → Entry → Reaction) : List Index :=
  indices.filter fun i =>
    match s.entry i with
    | some e => (f i e).notifies e && !s.queue.contains i
    | none => false

/-- One event at the directory: every occupied entry reacts, and the queue appends the newly queued
indices in ascending order (R7, R158). -/
def State.react (s : State) (f : Index → Entry → Reaction) : State :=
  (s.withEntries (s.entries.map fun i e => (f i e).result e)).withQueue (s.queue ++ s.newlyQueued f)

/-- An event that concerns one entry. -/
def State.reactAt (s : State) (i : Index) (f : Entry → Reaction) : State :=
  s.react fun j e => if j = i then f e else e.unchanged

/-! ### Lines and cycle units -/

/-- The line takes part: ACTIVE or GUARDED (R117). -/
def LineState.participates : LineState → Bool
  | .active => true
  | .guarded => true
  | .detached => false
  | .joining => false
  | .off => false

def State.participates (s : State) (l : LineId) : Bool := (s.line.get l).state.participates

def State.mode (s : State) (l : LineId) : CycleMode := (s.applied.line.get l).cycleMode

/-- R141: usable under a line state, mode and sync state. -/
def usableIn (state : LineState) (mode : CycleMode) (sync : SyncState) : Bool :=
  state.participates && (mode == .free || sync == .synced)

/-- R12, R141 -/
def State.usable (s : State) (l : LineId) : Bool :=
  usableIn (s.line.get l).state (s.mode l) (s.cycle.get l).sync

/-- R5, R36: the stamp a commit or a publish success on a line writes. -/
def State.stampNow (s : State) (l : LineId) : Option (BitVec 4) :=
  if s.mode l = .beaconed ∧ (s.cycle.get l).sync = .synced then some (s.cycle.get l).cycle else none

end Sys2Proof.Machine
end

