-- ==== Sys2Proof/Machine/Flags.lean ====
section
/-! DEFINITION. Flags: the seventeen event flags, their routes, and the two pins (R162 to R169). -/

namespace Sys2Proof.Machine

def Seven.get {α : Type} (x : Seven α) : LineFlag → α
  | .lineState => x.lineState
  | .caution => x.caution
  | .lineError => x.lineError
  | .syncLost => x.syncLost
  | .syncGained => x.syncGained
  | .yielded => x.yielded
  | .contested => x.contested

def Seven.put {α : Type} (x : Seven α) (f : LineFlag) (v : α) : Seven α :=
  match f with
  | .lineState => { x with lineState := v }
  | .caution => { x with caution := v }
  | .lineError => { x with lineError := v }
  | .syncLost => { x with syncLost := v }
  | .syncGained => { x with syncGained := v }
  | .yielded => { x with yielded := v }
  | .contested => { x with contested := v }

/-- The flags of a line in the order of the event table (R179). -/
def lineFlags : List LineFlag :=
  [.lineState, .caution, .lineError, .syncLost, .syncGained, .yielded, .contested]

/-- The seventeen flags in the order of the event table (R179). -/
def eventFlags : List EventFlag :=
  lineFlags.map (.ofLine .a) ++ lineFlags.map (.ofLine .b) ++ [.queueReady, .applyDone, .applyFault]

/-- R162, R163: whether a flag is set; QUEUE_READY follows the queue. -/
def State.flag (s : State) : EventFlag → Bool
  | .ofLine l f => (s.flags.line.get l).get f
  | .queueReady => !s.queue.isEmpty
  | .applyDone => s.flags.applyDone
  | .applyFault => s.flags.applyFault

/-- A latched flag given a value; QUEUE_READY is not latched (R163). -/
def Flags.put (x : Flags) (f : EventFlag) (v : Bool) : Flags :=
  match f with
  | .ofLine l g => { x with line := x.line.set l ((x.line.get l).put g v) }
  | .queueReady => x
  | .applyDone => { x with applyDone := v }
  | .applyFault => { x with applyFault := v }

/-- R162: a raise sets the flag. -/
def State.raise (s : State) (f : EventFlag) : State := s.withFlags (s.flags.put f true)

/-- A raise that happens under a condition. -/
def State.raiseIf (s : State) (c : Bool) (f : EventFlag) : State := if c then s.raise f else s

def Routes.get (r : Routes) : EventFlag → Route
  | .ofLine l f => (r.line.get l).get f
  | .queueReady => r.queueReady
  | .applyDone => r.applyDone
  | .applyFault => r.applyFault

def Routes.put (r : Routes) (f : EventFlag) (v : Route) : Routes :=
  match f with
  | .ofLine l g => { r with line := r.line.set l ((r.line.get l).put g v) }
  | .queueReady => { r with queueReady := v }
  | .applyDone => { r with applyDone := v }
  | .applyFault => { r with applyFault := v }

/-- The route that leads to a pin. -/
def routeTo : PinId → Route
  | .irq => .irq
  | .alert => .alert

/-- R165: a pin has demand while at least one flag routed to it is set. -/
def State.demand (s : State) (p : PinId) : Bool :=
  eventFlags.any fun f => s.flag f && s.applied.routes.get f == routeTo p

def Pins.get (p : Pins) : PinId → PinState
  | .irq => p.irq
  | .alert => p.alert

def Pins.put (p : Pins) (x : PinId) (v : PinState) : Pins :=
  match x with
  | .irq => { p with irq := v }
  | .alert => { p with alert := v }

/-- R165: the level without a window. -/
def pinFor (demand : Bool) : PinState := if demand then .asserted else .released

/-- R165, R167: a pin judged after an event that is no service request; a window holds it released. -/
def PinState.judge (p : PinState) (demand : Bool) : PinState :=
  match p with
  | .repulse => .repulse
  | _ => pinFor demand

/-- R166, R167, R168: a pin judged after TAKE, ACK_EVENTS or CLEAR. A window that still finds demand starts
afresh; one that finds none ends. -/
def PinState.service (p : PinState) (before after : Bool) : PinState :=
  match p, before, after with
  | _, _, false => .released
  | .repulse, _, true => .repulse
  | _, true, true => .repulse
  | _, false, true => .asserted

/-- R165: both pins judged on the state as it stands. -/
def State.judgePins (s : State) : State :=
  s.withPins { irq := s.pins.irq.judge (s.demand .irq), alert := s.pins.alert.judge (s.demand .alert) }

/-- R166: both pins judged against the demand before the request. -/
def State.servicePins (s before : State) : State :=
  s.withPins
    { irq := s.pins.irq.service (before.demand .irq) (s.demand .irq)
      alert := s.pins.alert.service (before.demand .alert) (s.demand .alert) }

end Sys2Proof.Machine
end

