-- ==== Sys2Proof/Machine/Matching.lean ====
section
/-! DEFINITION. Matching: the two sides of an entry, the duplicate guard, and the receiving and publishing matches (R3, R8, R22, R24, R26). -/

namespace Sys2Proof.Machine

/-- R3: the line, tag and mask of an entry's receiving side under a bank map. -/
def receivingSide (m : BankMap) (i : Index) (e : Entry) : Option (LineId × Tag × Tag) :=
  match e.kind with
  | .input => some (m.home i, e.tag, e.mask)
  | .output => none
  | .bridge => some (m.home i, e.tag, e.mask)

/-- R3: the line and publishing tag of an entry's publishing side under a bank map. -/
def publishingSide (m : BankMap) (i : Index) (e : Entry) : Option (LineId × Tag) :=
  match e.kind with
  | .input => none
  | .output => some (m.home i, e.tag)
  | .bridge => some ((m.home i).other, e.outTag)

/-- R26: two occupied entries with an equal receiving side or an equal publishing side on one line. -/
def clash (m : BankMap) (x y : Index × Entry) : Bool :=
  ((receivingSide m x.1 x.2).isSome && receivingSide m x.1 x.2 == receivingSide m y.1 y.2) ||
    ((publishingSide m x.1 x.2).isSome && publishingSide m x.1 x.2 == publishingSide m y.1 y.2)

/-- No two of the listed entries clash. -/
def noClash (m : BankMap) : List (Index × Entry) → Bool
  | [] => true
  | x :: rest => rest.all (fun y => !clash m x y) && noClash m rest

/-- R26: the duplicate guard over a directory under a bank map; RETIRING entries count. -/
def guardHolds (m : BankMap) (d : Directory) : Bool := noClash m d.occupied

/-- R8: LIVE, STALE or FROZEN. -/
def EntryState.receives : EntryState → Bool
  | .live => true
  | .stale => true
  | .frozen => true
  | .spent => false
  | .retiring => false

/-- Scope, "Lines, tags and masks": t agrees with the entry's tag wherever the mask holds a 1. -/
def Entry.satisfiedBy (e : Entry) (t : Tag) : Bool := t &&& e.mask == e.tag &&& e.mask

/-- R22: the entry is considered by the receiving match for a tag on a line. -/
def State.inReceivingMatch (s : State) (l : LineId) (t : Tag) (i : Index) : Bool :=
  match s.entry i with
  | some e => e.state.receives && e.kind != .output && s.home i == l && e.satisfiedBy t
  | none => false

/-- R22: the winner of the receiving match. -/
def State.receivingMatch (s : State) (l : LineId) (t : Tag) : Option Index :=
  indices.find? (s.inReceivingMatch l t)

/-- R24: the entry is considered by the publishing match for a tag on a line. -/
def State.inPublishingMatch (s : State) (l : LineId) (t : Tag) (i : Index) : Bool :=
  match s.entry i with
  | some e => e.state != .retiring && publishingSide s.applied.bankMap i e == some (l, t)
  | none => false

/-- R24: the winner of the publishing match. -/
def State.publishingMatch (s : State) (l : LineId) (t : Tag) : Option Index :=
  indices.find? (s.inPublishingMatch l t)

end Sys2Proof.Machine
end

