-- ==== Sys2Proof/Machine/Receiving.lean ====
section
/-! DEFINITION. Receiving: what the receiving side of an INPUT or BRIDGE entry does at a reception, a boundary, a freeze and a thaw (R30 to R48). -/

namespace Sys2Proof.Machine

/-- R33: the candidate after the third step. -/
def Entry.nextCandidate (e : Entry) (v : Value) : Candidate :=
  match e.candidate with
  | some c => if c.value = v then { value := v, run := c.run + 1 } else { value := v, run := 1 }
  | none => { value := v, run := 1 }

/-- R31: the cause of the first step. -/
def Entry.freshening (e : Entry) : List Cause := if e.state = .stale then [.freshened] else []

/-- R30 to R35: an accepted reception of V by a LIVE or STALE entry; `stamp` is the home line's (R36). -/
def Entry.accept (e : Entry) (v : Value) (stamp : Option (BitVec 4)) : Reaction :=
  let fresh := { e with age := 0, state := .live }
  if e.value = some v then
    { entry := { fresh with candidate := none }, causes := e.freshening }
  else if (e.nextCandidate v).run = e.confirm then
    { entry := { fresh with value := some v, candidate := none, stamp := stamp,
                            publishPending := e.publishPending || e.kind == .bridge }
      causes := e.freshening ++ [.committed] }
  else
    { entry := { fresh with candidate := some (e.nextCandidate v) }, causes := e.freshening }

/-- R22, R23, R48: the winner of the receiving match meets the frame. -/
def Entry.receive (e : Entry) (v : Value) (stamp : Option (BitVec 4)) : Reaction :=
  match e.state with
  | .live => e.accept v stamp
  | .stale => e.accept v stamp
  | .frozen => e.unchanged
  | .spent => e.unchanged
  | .retiring => e.unchanged

/-- R38, R39: the ageing of a LIVE or STALE receiving side at a boundary. With REFRESH 1 the boundary after an
accepted reception makes the entry STALE: R39 says so, R42's first order leaves it LIVE, and the model follows R39
(log 27). -/
def Entry.ageing (e : Entry) : Reaction :=
  let aged := min (e.age + 1) Config.ageCeiling
  if e.state = .live ∧ e.refresh ≠ 0 ∧ aged = e.refresh then
    { entry := { e with age := aged, state := .stale }, causes := [.stale] }
  else { entry := { e with age := aged }, causes := [] }

/-- R44 -/
def Entry.freeze (e : Entry) : Reaction :=
  if e.kind != .output && (e.state == .live || e.state == .stale) then
    { entry := { e with state := .frozen, candidate := none }, causes := [.froze] }
  else e.unchanged

/-- R45 -/
def Entry.thaw (e : Entry) : Reaction :=
  if e.kind != .output && e.state == .frozen then
    { entry := { e with state := .live, age := 0, candidate := none }, causes := [.thawed] }
  else e.unchanged

/-- R43, R44: a loss of usability of a line. -/
def State.freezeLine (s : State) (l : LineId) : State :=
  s.react fun i e => if s.home i = l then e.freeze else e.unchanged

/-- R43, R45: a gain of usability of a line. -/
def State.thawLine (s : State) (l : LineId) : State :=
  s.react fun i e => if s.home i = l then e.thaw else e.unchanged

/-- R21, R22, R24, R77, R86: a DATA frame handed to the directory. The receiving winner takes or swallows
it, and CONFLICT is raised on the publishing winner. -/
def State.deliverData (s : State) (l : LineId) (t : Tag) (v : Value) : State :=
  s.react fun i e =>
    if s.receivingMatch l t = some i then e.receive v (s.stampNow l)
    else if s.publishingMatch l t = some i then { entry := e, causes := [.conflict] }
    else e.unchanged

end Sys2Proof.Machine
end

