-- ==== Sys2Proof/Machine/Publishing.lean ====
section
/-! DEFINITION. Publishing: sampling, schedules, queries, the boundary's work at the directory, and the outcomes of an entry's attempts (R52, R55 to R92). -/

namespace Sys2Proof.Machine

/-- R60, R64 to R66: whether a sampling that changes the value owes a frame. -/
def Entry.publishesOnChange (e : Entry) (mode : CycleMode) : Bool :=
  match e.mode with
  | .onChange => true
  | .periodic => mode == .free
  | .onQuery => false

/-- R60: sampling under the home line's mode; nothing where no value is staged. -/
def Entry.sample (e : Entry) (mode : CycleMode) : Entry :=
  match e.staged with
  | none => e
  | some v =>
    { e with value := some v, staged := none,
             publishPending := e.publishPending || (e.publishesOnChange mode && e.value != some v) }

/-- R61, R62: a LIVE OUTPUT entry that is not HELD. -/
def Entry.samples (e : Entry) : Bool := e.kind == .output && e.state == .live && !e.held

/-- R65: a boundary's cycle number lies in the entry's schedule. -/
def Entry.scheduled (e : Entry) (cycle : BitVec 4) : Bool :=
  e.kind == .output && e.state == .live && e.mode == .periodic && e.value.isSome &&
    cycle.toNat % e.period == e.phase

/-- R61, R65: sampling, then the schedule, of an OUTPUT entry at a boundary. -/
def Entry.atBoundary (e : Entry) (cycle : BitVec 4) : Entry :=
  let e1 := if e.samples then e.sample .beaconed else e
  if e1.scheduled cycle then { e1 with publishPending := true } else e1

/-- R38, R46, R61, R65: what a boundary of its home line does to one entry; `gained` says that the event
also carries a gain of usability. -/
def Entry.boundary (e : Entry) (cycle : BitVec 4) (gained : Bool) : Reaction :=
  match e.kind with
  | .output => { entry := e.atBoundary cycle, causes := [] }
  | _ =>
    match e.state with
    | .live => e.ageing
    | .stale => e.ageing
    | .frozen => if gained then e.thaw else e.unchanged
    | _ => e.unchanged

/-- R145, step 4: the boundary of a line at the directory. -/
def State.boundaryAtDirectory (s : State) (l : LineId) (cycle : BitVec 4) (gained : Bool) : State :=
  s.react fun i e => if s.home i = l then e.boundary cycle gained else e.unchanged

/-- R62: sampling, in one event, of the LIVE OUTPUT entries not HELD that a predicate selects, on a FREE line. -/
def State.sampleWhere (s : State) (p : Index → Bool) : State :=
  s.withEntries (s.entries.map fun i e => if p i && e.samples then e.sample .free else e)

/-- R67, R84: a query that reaches an entry's publishing side. A SPENT entry ignores it. -/
def Entry.queried (e : Entry) : Reaction :=
  match e.state with
  | .live => { entry := { e with publishPending := true }, causes := [.queried] }
  | .stale => { entry := { e with publishPending := true }, causes := [.queried] }
  | .frozen => { entry := { e with publishPending := true }, causes := [.queried] }
  | .spent => e.unchanged
  | .retiring => e.unchanged

/-- R21, R67, R84: a QUERY with a non-zero tag at the directory. -/
def State.deliverQuery (s : State) (l : LineId) (t : Tag) : State :=
  s.react fun i e => if s.publishingMatch l t = some i then e.queried else e.unchanged

/-- R68, R84: whether a RECALL on a line reaches an entry. -/
def State.recalled (s : State) (l : LineId) (i : Index) (e : Entry) : Bool :=
  e.answersRecall && (publishingSide s.applied.bankMap i e).map Prod.fst == some l

/-- R68: the RECALL sweep. -/
def State.deliverRecall (s : State) (l : LineId) : State :=
  s.react fun i e => if s.recalled l i e then e.queried else e.unchanged

/-! ### Outcomes -/

/-- R136: how an attempt ends. -/
inductive Ending where
  | success
  | loss
  | error
  | abortDetach
  | abortOff
  | abortClear
  deriving DecidableEq, Repr

def Frame.carries (f : Frame) (v : Option Value) : Bool :=
  match f with
  | .data _ w => v == some w
  | _ => false

/-- R74, R75, R82: a successful publish. -/
def Entry.publishSuccess (e : Entry) (f : Frame) (stamp : Option (BitVec 4)) : Reaction :=
  match e.kind with
  | .output =>
    if e.oneShot then
      { entry := { e with stamp := stamp, state := .spent, publishPending := false }, causes := [.published] }
    else
      { entry := { e with stamp := stamp, publishPending := !f.carries e.value }, causes := [.published] }
  | .bridge => { entry := { e with publishPending := !f.carries e.value }, causes := [.published] }
  | .input => e.unchanged

/-- R52, R74 to R76, R82: an outcome applied to an entry that is not RETIRING. -/
def Entry.outcome (e : Entry) (a : Attempt) (x : Ending) (stamp : Option (BitVec 4)) : Reaction :=
  match x, a.owner with
  | .success, .publish _ => e.publishSuccess a.frame stamp
  | .success, .ask _ => { entry := { e with askPending := false }, causes := [] }
  | _, _ => e.unchanged

/-- R6: the line leaves the entry's in-flight lines. -/
def Entry.landed (e : Entry) (l : LineId) : Entry := { e with inFlight := e.inFlight.set l false }

/-- R6: no frame of the entry is in flight. -/
def Entry.grounded (e : Entry) : Bool := !e.inFlight.a && !e.inFlight.b

/-- R6, R16, R136: an outcome reported to the directory for one entry. A report that names a line not in
the entry's in-flight lines has no effect. -/
def State.reportToEntry (s : State) (l : LineId) (i : Index) (a : Attempt) (x : Ending) : State :=
  match s.entry i with
  | none => s
  | some e =>
    if e.inFlight.get l then
      if e.state = .retiring then
        if (e.landed l).grounded then s.emptyEntry i else s.setEntry i (e.landed l)
      else s.reactAt i fun e => (e.landed l).outcome a x (s.stampNow l)
    else s

end Sys2Proof.Machine
end

