-- ==== Sys2Proof/Machine/Cycle.lean ====
section
/-! DEFINITION. Cycle: the cycle units: boundaries, sync state, watch, roles, the beacon source, and usability (R138 to R156). -/

namespace Sys2Proof.Machine

/-- R149: a period timer started afresh. -/
def State.periodInterval (s : State) (l : LineId) : Timer :=
  .running ((s.applied.line.get l).cyclePeriod * Config.clkinPerMs)

/-- R145: a watch timer started afresh at 2 × CYCLE_PERIOD. -/
def State.watchInterval (s : State) (l : LineId) : Timer :=
  .running (2 * (s.applied.line.get l).cyclePeriod * Config.clkinPerMs)

/-- R141: the change of a line's usability since `before`, delivered to the directory. -/
def State.deliverUsability (s : State) (l : LineId) (before : Bool) : State :=
  match before, s.usable l with
  | true, false => s.freezeLine l
  | false, true => s.thawLine l
  | _, _ => s

/-- R145, step 3: the sync state and the hold-off count after a boundary. -/
def CycleUnit.advance (u : CycleUnit) : CycleUnit :=
  match u.sync with
  | .unsynced => { u with sync := .regaining, holdOff := Config.holdOffStart }
  | .regaining =>
    if u.holdOff - 1 = 0 then { u with sync := .synced, holdOff := 0 } else { u with holdOff := u.holdOff - 1 }
  | .synced => u
  | .free => u

/-- R145: a boundary with its cycle number, in the order of its four steps. -/
def State.takeBoundary (s : State) (l : LineId) (cycle : BitVec 4) : State :=
  let u := ({ s.cycle.get l with cycle := cycle, watchTimer := s.watchInterval l }).advance
  let gainedSync := (s.cycle.get l).sync == .regaining && u.sync == .synced
  let s1 := (s.withCycle l u).raiseIf gainedSync (.ofLine l .syncGained)
  s1.boundaryAtDirectory l cycle (!s.usable l && s1.usable l)

/-- R152: the yield of a unit acting as SOURCE, without the boundary that follows it. -/
def CycleUnit.yield (u : CycleUnit) : CycleUnit :=
  { u with acting := .follower, due := false, fresh := false, periodTimer := .stopped }

/-- R139, R144, R152: a good BEACON delivered to the cycle unit. -/
def State.deliverBeacon (s : State) (l : LineId) (address : Nat) (cycle : BitVec 4) : State :=
  match s.mode l, (s.cycle.get l).acting with
  | .free, _ => s
  | .beaconed, .follower => s.takeBoundary l cycle
  | .beaconed, .source =>
    if address < (s.applied.line.get l).nodeAddress then
      ((s.withCycle l (s.cycle.get l).yield).raise (.ofLine l .yielded)).takeBoundary l cycle
    else s.raise (.ofLine l .contested)

/-- R151: an outcome of the line's own BEACON; a success is a boundary with the number the frame carried. -/
def State.reportToCycleUnit (s : State) (l : LineId) (a : Attempt) (x : Ending) : State :=
  match x, a.frame with
  | .success, .beacon _ cycle =>
    (s.withCycle l { s.cycle.get l with due := false, fresh := false }).takeBoundary l cycle
  | _, _ => s

/-- R139, R156: the sync state a unit that takes no part holds under a mode. -/
def idleSync (m : CycleMode) : SyncState :=
  match m with
  | .beaconed => .unsynced
  | .free => .free

/-- R142, R149: the unit of a line that starts taking part. -/
def State.unitJoins (s : State) (l : LineId) : CycleUnit :=
  let u := s.cycle.get l
  if s.mode l = .beaconed ∧ u.acting = .source then
    { u with fresh := true, periodTimer := s.periodInterval l }
  else u

/-- R142: the unit of a line that stops taking part. -/
def State.unitLeaves (s : State) (l : LineId) : CycleUnit :=
  { s.cycle.get l with sync := idleSync (s.mode l), holdOff := 0, acting := (s.applied.line.get l).role,
                       fresh := false, due := false, periodTimer := .stopped, watchTimer := .stopped }

/-- R140: the acting role of a unit whose line arrives in DETACHED without having taken part. -/
def State.unitRoleReset (s : State) (l : LineId) : CycleUnit :=
  { s.cycle.get l with acting := (s.applied.line.get l).role }

/-- R140 to R142: the controller's report of a change of line state; the controller already holds the new
state, `old` is the state before. -/
def State.lineStateReport (s : State) (l : LineId) (old : LineState) : State :=
  let before := usableIn old (s.mode l) (s.cycle.get l).sync
  match old.participates, s.participates l with
  | false, true => (s.withCycle l (s.unitJoins l)).deliverUsability l before
  | true, false => (s.withCycle l (s.unitLeaves l)).deliverUsability l before
  | false, false => if (s.line.get l).state = .detached then s.withCycle l (s.unitRoleReset l) else s
  | true, true => s

/-- R149: the expiry of a running period timer. -/
def State.periodExpires (s : State) (l : LineId) : State :=
  s.withCycle l { s.cycle.get l with periodTimer := s.periodInterval l, due := true }

/-- R153: the resumption of the SOURCE role by a yielded unit. -/
def State.resume (s : State) (l : LineId) : State :=
  if (s.applied.line.get l).role = .source ∧ (s.cycle.get l).acting = .follower then
    s.withCycle l { s.cycle.get l with acting := .source, periodTimer := s.periodInterval l, due := true }
  else s

/-- R147, R153: the expiry of a running watch timer. -/
def State.watchExpires (s : State) (l : LineId) : State :=
  let u := s.cycle.get l
  let stopped := { u with watchTimer := .stopped, sync := .unsynced, holdOff := 0 }
  let s1 := (s.withCycle l stopped).raiseIf (u.sync == .synced) (.ofLine l .syncLost)
  (s1.deliverUsability l (s.usable l)).resume l

/-- R134, R139: the unit has a beacon due for its line's selection. -/
def State.beaconDue (s : State) (l : LineId) : Bool := s.mode l == .beaconed && (s.cycle.get l).due

/-- R150: the cycle number a selected BEACON carries. -/
def CycleUnit.nextNumber (u : CycleUnit) : BitVec 4 := if u.fresh then 0 else u.cycle + 1

end Sys2Proof.Machine
end

