-- ==== Sys2Proof/Machine/Operands.lean ====
section
/-! DEFINITION. Operands: how request operands are read and response bytes are formed (R9, R28, R176, R179 to R182 and the tables of section 9.4). -/

namespace Sys2Proof.Machine

/-- R179: an index operand; 64 and above name no entry. -/
def indexOperand (b : Byte) : Option Index := if h : b.toNat < 64 then some ⟨b.toNat, h⟩ else none

/-- R179: a line operand. -/
def lineOperand (b : Byte) : Option LineId :=
  match b.toNat with
  | 0 => some .a
  | 1 => some .b
  | _ => none

/-- R25, R179: the side operand of LOOKUP. -/
inductive Side where
  | inside
  | outside
  deriving DecidableEq, Repr

def sideOperand (b : Byte) : Option Side :=
  match b.toNat with
  | 0 => some .inside
  | 1 => some .outside
  | _ => none

/-- R179: the low twelve bits of a two-byte field. -/
def tagOperand (w : BitVec 16) : Tag := w.setWidth 12

/-- The index selector of CLAIM (R9, "CLAIM operands"). -/
inductive Selector where
  | explicit (i : Index)
  | lowestFree (bank : Fin 4)
  deriving DecidableEq, Repr

def selectorOperand (b : Byte) : Option Selector :=
  let low := b.toNat % 128
  if b.toNat < 128 then
    if h : low < 64 then some (.explicit ⟨low, h⟩) else none
  else
    if h : low < 4 then some (.lowestFree ⟨low, h⟩) else none

def kindOperand (b : Byte) : Option Kind :=
  match b.toNat with
  | 1 => some .input
  | 2 => some .output
  | 3 => some .bridge
  | _ => none

def modeOperand (b : Byte) : Option Mode :=
  match b.toNat with
  | 0 => some .onChange
  | 1 => some .periodic
  | 2 => some .onQuery
  | _ => none

/-- R56: the first `n` of the eight value bytes. -/
def valueOperand (length : Byte) (value : Vector Byte 8) : Option Value :=
  if length.toNat ≤ 8 then some (value.toList.take length.toNat) else none

/-! ### Response bytes -/

def byteOfNat (n : Nat) : Byte := BitVec.ofNat 8 n

/-- Bits from 7 down to 0 as a byte. -/
def byteOfBits (bits : List Bool) : Byte := byteOfNat (bitsNat bits)

def indexByte (i : Index) : Byte := byteOfNat i.val

def lineByte : LineId → Byte
  | .a => 0
  | .b => 1

def tagBytes (t : Tag) : List Byte := bytes16 (t.setWidth 16)

/-- A cause set as two bytes ("Causes"). -/
def causeBytes (c : CauseSet) : List Byte :=
  [ byteOfBits [false, false, false, false, false, false, false, c.published],
    byteOfBits [c.queried, c.conflict, c.thawed, c.froze, c.freshened, c.stale, c.superseded, c.committed] ]

/-- R180: a value's eight bytes, 0 beyond its length and where it is absent. -/
def valueBytes (v : Option Value) : List Byte :=
  (v.getD []).take 8 ++ List.replicate (8 - (v.getD []).length) 0

/-- R180: a presence bit and a length. -/
def lengthByte (v : Option Value) (extra : Nat) : Byte :=
  byteOfNat ((if v.isSome then 128 else 0) + extra + (v.getD []).length % 16)

def kindNumber : Kind → Nat
  | .input => 1
  | .output => 2
  | .bridge => 3

def entryStateNumber : EntryState → Nat
  | .live => 1
  | .stale => 2
  | .frozen => 3
  | .spent => 4
  | .retiring => 5

def modeNumber : Mode → Nat
  | .onChange => 0
  | .periodic => 1
  | .onQuery => 2

/-- Byte 1 of the entry view. -/
def entryHead (kind : Nat) (home : LineId) (queued : Bool) (state : Nat) : Byte :=
  byteOfNat (kind * 64 + (lineByte home).toNat * 32 + queued.toNat * 16 + state)

/-- R28, R180: the 45 bytes of the entry view. Fields the kind does not carry read 0. -/
def State.entryView (s : State) (i : Index) : List Byte :=
  match s.entry i with
  | none => [indexByte i, entryHead 0 (s.home i) (s.queue.contains i) 0] ++ List.replicate 43 0
  | some e =>
    let receiving := e.kind != .output
    let publishing := e.kind != .input
    let output := e.kind == .output
    let scheduled := output && e.mode == .periodic
    let gate (c : Bool) (n : Nat) : Byte := if c then byteOfNat n else 0
    [indexByte i, entryHead (kindNumber e.kind) (s.home i) (s.queue.contains i) (entryStateNumber e.state)] ++
    tagBytes e.tag ++
    tagBytes (if receiving then e.mask else 0) ++
    tagBytes (if e.kind == .bridge then e.outTag else 0) ++
    [ gate receiving e.confirm, gate receiving e.refresh, gate receiving e.age,
      gate output (modeNumber e.mode), gate scheduled e.period, gate scheduled e.phase,
      (match e.stamp with
       | some n => byteOfNat (128 + n.toNat)
       | none => 0),
      byteOfBits [e.notify, output && e.oneShot, publishing && e.answersRecall, publishing && e.held,
                  publishing && e.publishPending, receiving && e.askPending, e.inFlight.b, e.inFlight.a] ] ++
    causeBytes e.causes ++
    [lengthByte e.value 0] ++ valueBytes e.value ++
    (let v := if output then e.staged else none
     [lengthByte v 0] ++ valueBytes v) ++
    (let c := if receiving then e.candidate else none
     [lengthByte (c.map Candidate.value) ((c.map Candidate.run).getD 0 * 16)] ++ valueBytes (c.map Candidate.value))

def lineStateNumber : LineState → Nat
  | .detached => 0
  | .joining => 1
  | .active => 2
  | .guarded => 3
  | .off => 4

def syncNumber : SyncState → Nat
  | .unsynced => 0
  | .regaining => 1
  | .synced => 2
  | .free => 3

def errorNumber : Option ErrorKind → Nat
  | none => 0
  | some .bit => 1
  | some .pace => 2
  | some .check => 3
  | some .form => 4
  | some .noAck => 5

/-- Byte 6 of the line view: the frame in flight. -/
def inFlightByte : Option Attempt → Byte
  | none => 0
  | some a =>
    match a.owner with
    | .beacon => byteOfNat 64
    | .publish i => byteOfNat (128 + i.val)
    | .ask i => byteOfNat (192 + i.val)

def bankIndices : List (Fin 4) := [0, 1, 2, 3]

/-- R188: a bank whose line differs between two maps. -/
def movesBank (old new : BankMap) : Bool := bankIndices.any fun b => old.get b != new.get b

/-- R176: the line's own portion of a pending apply set waits. -/
def State.lineWaits (s : State) (l : LineId) : Bool :=
  match s.applySet with
  | some p => p.lineWaiting.get l
  | none => false

/-- R176: a bank-map portion waits; with two lines it concerns both (R188). -/
def State.bankWaits (s : State) : Bool :=
  match s.applySet with
  | some p => p.bankWaiting
  | none => false

/-- R176: the 8 bytes of the line view. -/
def State.lineView (s : State) (l : LineId) : List Byte :=
  let c := s.line.get l
  let u := s.cycle.get l
  [ lineByte l,
    byteOfNat (c.rejoin.toNat * 128 + (if u.acting = .source then 64 else 0) + syncNumber u.sync * 16 +
      lineStateNumber c.state),
    byteOfNat (u.holdOff * 16 + u.cycle.toNat),
    byteOfNat c.transmitCount,
    byteOfNat (if c.state = .off then c.recovery else c.receiveCount),
    byteOfNat (errorNumber c.lastError),
    inFlightByte c.attempt,
    byteOfNat (s.bankWaits.toNat * 2 + (s.lineWaits l).toNat) ]

def sevenByte (x : Seven Bool) : Byte :=
  byteOfBits [false, x.contested, x.yielded, x.syncGained, x.syncLost, x.lineError, x.caution, x.lineState]

/-- R164, R181: the three bytes of EVENTS. -/
def State.eventBytes (s : State) : List Byte :=
  [ sevenByte s.flags.line.a, sevenByte s.flags.line.b,
    byteOfBits [false, false, false, false, false, s.flags.applyFault, s.flags.applyDone, s.flag .queueReady] ]

/-- R181: the flags of a line that an acknowledge mask byte leaves set. -/
def Seven.ack (x : Seven Bool) (m : Byte) : Seven Bool :=
  { lineState := x.lineState && !m.getLsbD 0
    caution := x.caution && !m.getLsbD 1
    lineError := x.lineError && !m.getLsbD 2
    syncLost := x.syncLost && !m.getLsbD 3
    syncGained := x.syncGained && !m.getLsbD 4
    yielded := x.yielded && !m.getLsbD 5
    contested := x.contested && !m.getLsbD 6 }

/-- R164, R181: the latched flags after ACK_EVENTS; bit 0 of the third byte names nothing. -/
def Flags.ack (x : Flags) (m0 m1 m2 : Byte) : Flags :=
  { line := { a := x.line.a.ack m0, b := x.line.b.ack m1 }
    applyDone := x.applyDone && !m2.getLsbD 1
    applyFault := x.applyFault && !m2.getLsbD 2 }

def statusByte : Status → Byte
  | .ok => 0x00
  | .pending => 0x01
  | .busy => 0x10
  | .noSlot => 0x11
  | .occupied => 0x12
  | .duplicate => 0x13
  | .notFound => 0x14
  | .queueEmpty => 0x15
  | .badKind => 0x20
  | .badState => 0x21
  | .badArg => 0x22
  | .framing => 0x30
  | .badRequest => 0x31

def Response.bytes (r : Response) : List Byte := statusByte r.status :: r.result
def Response.length (r : Response) : Nat := r.bytes.length

/-- R171: the bits MISO carries at `edges` rising edges: the held response, then zeros. -/
def Response.shiftOut (r : Response) (edges : Nat) : List Bool :=
  ((r.bytes.flatMap byteBits) ++ List.replicate edges false).take edges

/-- What a block answers to a request: a status and, with OK, result bytes (R173). -/
structure Answer where
  status : Status
  result : List Byte
  deriving DecidableEq, Repr

/-- An answer without result bytes of its own. -/
def Answer.plain (x : Status) : Answer := { status := x, result := [] }

/-- R173, R179: the response of the request's own length; a status other than OK or PENDING has result bytes of 0. -/
def Answer.response (x : Answer) (length : Nat) : Response :=
  let result := if x.status = .ok ∨ x.status = .pending then x.result else []
  { status := x.status, result := result ++ List.replicate (length - 1 - result.length) 0 }

end Sys2Proof.Machine
end

