-- ==== Sys2Proof/Machine/Settings.lean ====
section
/-! DEFINITION. Settings: the setting items, their codes and ranges, and APPLY with its portions (R27, R156, R182 to R191). -/

namespace Sys2Proof.Machine

/-- The setting items (R183, "Setting items"). -/
inductive Item where
  | rate (l : LineId)
  | nodeAddress (l : LineId)
  | cycleMode (l : LineId)
  | role (l : LineId)
  | cyclePeriod (l : LineId)
  | autoRejoin (l : LineId)
  | caution (l : LineId)
  | bankMap
  | route (f : EventFlag)
  deriving DecidableEq, Repr

/-- R182: the item a code names. -/
def itemOperand (b : Byte) : Option Item :=
  match b.toNat with
  | 0x01 => some (.rate .a)
  | 0x02 => some (.rate .b)
  | 0x03 => some (.nodeAddress .a)
  | 0x04 => some (.nodeAddress .b)
  | 0x05 => some (.cycleMode .a)
  | 0x06 => some (.cycleMode .b)
  | 0x07 => some (.role .a)
  | 0x08 => some (.role .b)
  | 0x09 => some (.cyclePeriod .a)
  | 0x0A => some (.cyclePeriod .b)
  | 0x0B => some (.autoRejoin .a)
  | 0x0C => some (.autoRejoin .b)
  | 0x0D => some (.caution .a)
  | 0x0E => some (.caution .b)
  | 0x0F => some .bankMap
  | n => if 0x10 ≤ n then (eventFlags[n - 0x10]?).map .route else none

def Rate.number : Rate → Nat
  | .kbit20 => 20
  | .kbit50 => 50
  | .kbit125 => 125
  | .kbit250 => 250

def rateOf (n : Nat) : Option Rate :=
  match n with
  | 20 => some .kbit20
  | 50 => some .kbit50
  | 125 => some .kbit125
  | 250 => some .kbit250
  | _ => none

def CycleMode.number : CycleMode → Nat
  | .beaconed => 0
  | .free => 1

def cycleModeOf (n : Nat) : Option CycleMode :=
  match n with
  | 0 => some .beaconed
  | 1 => some .free
  | _ => none

def Role.number : Role → Nat
  | .follower => 0
  | .source => 1

def roleOf (n : Nat) : Option Role :=
  match n with
  | 0 => some .follower
  | 1 => some .source
  | _ => none

def onOffOf (n : Nat) : Option Bool :=
  match n with
  | 0 => some false
  | 1 => some true
  | _ => none

def Route.number : Route → Nat
  | .none => 0
  | .irq => 1
  | .alert => 2

def routeOf (n : Nat) : Option Route :=
  match n with
  | 0 => some .none
  | 1 => some .irq
  | 2 => some .alert
  | _ => none

def lineNumber : LineId → Nat
  | .a => 0
  | .b => 1

def BankMap.number (m : BankMap) : Nat :=
  lineNumber m.bank0 + 2 * lineNumber m.bank1 + 4 * lineNumber m.bank2 + 8 * lineNumber m.bank3

/-- BANK_MAP's coding: bit b gives bank b's line; bits 15 to 4 are ignored. -/
def bankMapOf (n : Nat) : BankMap :=
  let lineAt (bit : Nat) : LineId := if n.testBit bit then .b else .a
  { bank0 := lineAt 0, bank1 := lineAt 1, bank2 := lineAt 2, bank3 := lineAt 3 }

/-- A number within a range. -/
def within (low high n : Nat) : Option Nat := if low ≤ n ∧ n ≤ high then some n else none

/-- One line's items changed. -/
def Settings.putLine (x : Settings) (l : LineId) (y : LineSettings) : Settings :=
  { x with line := x.line.set l y }

/-- An item's value in a copy, as it travels. -/
def Settings.get (x : Settings) : Item → Nat
  | .rate l => (x.line.get l).rate.number
  | .nodeAddress l => (x.line.get l).nodeAddress
  | .cycleMode l => (x.line.get l).cycleMode.number
  | .role l => (x.line.get l).role.number
  | .cyclePeriod l => (x.line.get l).cyclePeriod
  | .autoRejoin l => (x.line.get l).autoRejoin.toNat
  | .caution l => (x.line.get l).caution
  | .bankMap => x.bankMap.number
  | .route f => (x.routes.get f).number

/-- R183, R184: an item written into a copy; none where the value is out of range. -/
def Settings.put (x : Settings) (item : Item) (n : Nat) : Option Settings :=
  match item with
  | .rate l => (rateOf n).map fun v => x.putLine l { x.line.get l with rate := v }
  | .nodeAddress l => (within 1 63 n).map fun v => x.putLine l { x.line.get l with nodeAddress := v }
  | .cycleMode l => (cycleModeOf n).map fun v => x.putLine l { x.line.get l with cycleMode := v }
  | .role l => (roleOf n).map fun v => x.putLine l { x.line.get l with role := v }
  | .cyclePeriod l => (within 2 250 n).map fun v => x.putLine l { x.line.get l with cyclePeriod := v }
  | .autoRejoin l => (onOffOf n).map fun v => x.putLine l { x.line.get l with autoRejoin := v }
  | .caution l => (within 1 99 n).map fun v => x.putLine l { x.line.get l with caution := v }
  | .bankMap => some { x with bankMap := bankMapOf n }
  | .route f => (routeOf n).map fun v => { x with routes := x.routes.put f v }

/-- R186: whether the portion that holds an item waits. The routes portion never waits. -/
def ApplySet.waitsFor (p : ApplySet) : Item → Bool
  | .rate l => p.lineWaiting.get l
  | .nodeAddress l => p.lineWaiting.get l
  | .cycleMode l => p.lineWaiting.get l
  | .role l => p.lineWaiting.get l
  | .cyclePeriod l => p.lineWaiting.get l
  | .autoRejoin l => p.lineWaiting.get l
  | .caution l => p.lineWaiting.get l
  | .bankMap => p.bankWaiting
  | .route _ => false

/-- R184, "Setting items": the seven result bytes of SETTING_READ. -/
def State.settingView (s : State) (item : Item) : List Byte :=
  let word (n : Nat) : List Byte := bytes16 (BitVec.ofNat 16 n)
  let waiting := match s.applySet with
    | some p => p.waitsFor item
    | none => false
  let pendingValue := match s.applySet with
    | some p => if p.waitsFor item then p.values.get item else 0
    | none => 0
  word (s.staged.get item) ++ word (s.applied.get item) ++ [byteOfNat waiting.toNat] ++ word pendingValue

/-! ### Portions -/

def State.isDetached (s : State) (l : LineId) : Bool := (s.line.get l).state == .detached

/-- R156, R187: a line portion applied while its line is DETACHED. -/
def State.applyLineItems (s : State) (l : LineId) (new : LineSettings) : State :=
  let oldMode := s.mode l
  let s1 := (s.withApplied (s.applied.putLine l new)).withCycle l
    { s.cycle.get l with sync := idleSync new.cycleMode, acting := new.role }
  if oldMode = .beaconed ∧ new.cycleMode = .free then s1.sampleWhere fun i => s1.home i == l else s1

/-- R186: a line portion at an occasion: applied when the line is DETACHED or when it changes nothing,
otherwise left waiting. -/
def State.tryLine (s : State) (l : LineId) : State :=
  match s.applySet with
  | none => s
  | some p =>
    let landed := some { p with lineWaiting := p.lineWaiting.set l false }
    if !p.lineWaiting.get l then s
    else if s.isDetached l then (s.applyLineItems l (p.values.line.get l)).withApplySet landed
    else if p.values.line.get l = s.applied.line.get l then s.withApplySet landed
    else s

/-- R27, R62, R91, R191 step 2: the banks of a new map moved, with the sampling on FREE lines. -/
def State.moveBanks (s : State) (new : BankMap) : State :=
  let old := s.applied.bankMap
  let s1 := s.withApplied { s.applied with bankMap := new }
  s1.sampleWhere fun i => old.home i != new.home i && s1.mode (new.home i) == .free

/-- R188, R191 steps 1 to 3: a bank-map portion at an occasion. -/
def State.tryBanks (s : State) : State :=
  match s.applySet with
  | none => s
  | some p =>
    let landed := some { p with bankWaiting := false }
    if !p.bankWaiting then s
    else if !movesBank s.applied.bankMap p.values.bankMap then s.withApplySet landed
    else if s.isDetached .a && s.isDetached .b then
      if guardHolds p.values.bankMap s.entries then (s.moveBanks p.values.bankMap).withApplySet landed
      else (s.withApplySet landed).raise .applyFault
    else s

/-- R185: the set ends with APPLY_DONE when no portion waits. -/
def State.finishSet (s : State) : State :=
  match s.applySet with
  | none => s
  | some p =>
    if p.lineWaiting.a || p.lineWaiting.b || p.bankWaiting then s
    else (s.withApplySet none).raise .applyDone

/-- R186: the notice that a line has arrived in DETACHED. -/
def State.notice (s : State) (l : LineId) : State := ((s.tryLine l).tryBanks).finishSet

/-- R185, R186, R188: APPLY's work, the answer left out. The line portions go before the bank-map portion, Line A's
first; the spec orders them at a notice only (log 28). -/
def State.applyStaged (s : State) : State :=
  let p : ApplySet := { values := s.staged, lineWaiting := { a := true, b := true }, bankWaiting := true }
  let s1 := (s.withApplied { s.applied with routes := s.staged.routes }).withApplySet (some p)
  (((s1.tryLine .a).tryLine .b).tryBanks).finishSet

end Sys2Proof.Machine
end

