-- ==== Sys2Proof/Machine/LineControl.lean ====
section
/-! DEFINITION. LineControl: the line controllers: counts and line states, attempts and their outcomes, transmit selection, received frames, joining, detaching, OFF and its recovery (R96, R103, R104, R109, R110, R114 to R137, R190). -/

namespace Sys2Proof.Machine

/-! ### Counts -/

def LineCtl.larger (c : LineCtl) : Nat := max c.transmitCount c.receiveCount

/-- R125: the line state after a change of the counts. -/
def LineCtl.settle (c : LineCtl) : LineCtl :=
  if c.state = .active ∧ (Config.guardedLevel ≤ c.transmitCount ∨ Config.guardedLevel ≤ c.receiveCount) then
    { c with state := .guarded }
  else if c.state = .guarded ∧ c.transmitCount < Config.guardedLevel ∧ c.receiveCount < Config.guardedLevel then
    { c with state := .active }
  else c

/-- R125, R127: new counts, with LINE_STATE and CAUTION where they are due. -/
def State.withCounts (s : State) (l : LineId) (transmit receive : Nat) : State :=
  let old := s.line.get l
  let new := ({ old with transmitCount := transmit, receiveCount := receive } : LineCtl).settle
  let level := (s.applied.line.get l).caution
  let crossed := decide (old.larger < level) != decide (new.larger < level)
  ((s.withLine l new).raiseIf (new.state != old.state) (.ofLine l .lineState)).raiseIf crossed (.ofLine l .caution)

/-- R124: a successful reception. -/
def State.countReception (s : State) (l : LineId) : State :=
  s.withCounts l (s.line.get l).transmitCount ((s.line.get l).receiveCount - 1)

/-- R124: a successful transmission. -/
def State.countTransmission (s : State) (l : LineId) : State :=
  s.withCounts l ((s.line.get l).transmitCount - 1) (s.line.get l).receiveCount

/-- R126: LAST_ERROR and LINE_ERROR. -/
def State.noteError (s : State) (l : LineId) (kind : ErrorKind) : State :=
  (s.withLine l { s.line.get l with lastError := some kind }).raise (.ofLine l .lineError)

/-- R113: the flag for an error; active on an ACTIVE line. After a receiver's CHECK error it starts one bit later. -/
def errorFlag (state : LineState) (wait : Nat) : Phase := .flagging (state == .active) wait 0

/-! ### Attempts -/

/-- R136: the outcome of an attempt reported to the frame's owner. -/
def State.report (s : State) (l : LineId) (a : Attempt) (x : Ending) : State :=
  match a.owner with
  | .beacon => s.reportToCycleUnit l a x
  | .publish i => s.reportToEntry l i a x
  | .ask i => s.reportToEntry l i a x

/-- R136: the buffer emptied, the frame in flight none. -/
def State.emptyBuffer (s : State) (l : LineId) : State := s.withLine l { s.line.get l with attempt := none }

/-- The attempt of a line that takes part and whose engine is sending it or about to (log 9). -/
def State.sendingAttempt (s : State) (l : LineId) : Option Attempt :=
  match s.participates l, s.engine.get l, (s.line.get l).attempt with
  | true, .idle _, some a => some a
  | true, .sending _, some a => some a
  | _, _, _ => none

/-- R134: the frame an entry offers to a line. -/
def State.offer (s : State) (l : LineId) (i : Index) (e : Entry) : Option Attempt :=
  let publishes := e.publishPending && !e.held && !e.inFlight.get l
  let asks := e.askPending && !e.inFlight.get l && e.state.receives && s.home i == l
  match e.kind, e.value with
  | .output, some v =>
    if publishes && e.state == .live && s.home i == l then some { owner := .publish i, frame := .data e.tag v } else none
  | .output, none => none
  | .input, _ => if asks then some { owner := .ask i, frame := .query e.tag } else none
  | .bridge, some v =>
    if asks then some { owner := .ask i, frame := .query e.tag }
    else if publishes && e.state.receives && (s.home i).other == l then
      some { owner := .publish i, frame := .data e.outTag v }
    else none
  | .bridge, none => if asks then some { owner := .ask i, frame := .query e.tag } else none

def State.offerAt (s : State) (l : LineId) (i : Index) : Option Attempt :=
  match s.entry i with
  | some e => s.offer l i e
  | none => none

/-- R134, R150: the due beacon's frame. -/
def State.beaconFrame (s : State) (l : LineId) : Attempt :=
  { owner := .beacon, frame := .beacon (s.applied.line.get l).nodeAddress (s.cycle.get l).nextNumber }

/-- R134: the frame the controller takes: the due beacon, otherwise that of the lowest-index candidate. -/
def State.choice (s : State) (l : LineId) : Option Attempt :=
  if s.beaconDue l then some (s.beaconFrame l) else indices.findSome? (s.offerAt l)

/-- R133: the conditions of a selection other than a candidate. -/
def State.canSelect (s : State) (l : LineId) : Bool :=
  match s.participates l, s.engine.get l, (s.line.get l).attempt with
  | true, .idle _, none => true
  | _, _, _ => false

/-- R133, R134: the selection that is due, if one is. -/
def State.selection (s : State) (l : LineId) : Option Attempt := if s.canSelect l then s.choice l else none

/-- R6, R135: the line joins the in-flight lines of the entry whose frame was copied. -/
def Entry.launched (e : Entry) (l : LineId) : Entry := { e with inFlight := e.inFlight.set l true }

def State.launch (s : State) (l : LineId) (i : Index) : State :=
  match s.entry i with
  | some e => s.setEntry i (e.launched l)
  | none => s

/-- R135: the frame copied into the transmit buffer. -/
def State.copyFrame (s : State) (l : LineId) (a : Attempt) : State :=
  let s1 := s.withLine l { s.line.get l with attempt := some a }
  match a.owner with
  | .beacon => s1
  | .publish i => s1.launch l i
  | .ask i => s1.launch l i

/-! ### Errors -/

/-- The engine of a line that takes part can be in another node's frame, or meet one in its next bit:
RECEIVING, INTERMISSION, or IDLE with nothing copied (R102, R103, log 9). -/
def State.canReceive (s : State) (l : LineId) : Bool :=
  match s.participates l, s.engine.get l, (s.line.get l).attempt with
  | true, .receiving _, none => true
  | true, .intermission _, none => true
  | true, .idle _, none => true
  | _, _, _ => false

/-- R114, R123, R126: an error detected as receiver. -/
def State.receiveErrorOn (s : State) (l : LineId) (kind : ErrorKind) : State :=
  let wait := if kind = .check then 1 else 0
  let s1 := (s.withEngine l (errorFlag (s.line.get l).state wait)).noteError l kind
  s1.withCounts l (s.line.get l).transmitCount (min ((s.line.get l).receiveCount + 1) Config.receiveCeiling)

/-- R123: what an error as sender adds to the transmit count. -/
def senderCost (state : LineState) (kind : ErrorKind) : Nat :=
  if kind = .noAck ∧ state = .guarded then 0 else Config.transmitErrorCost

/-- R128: entry into OFF; the error has been noted and the attempt is still in the buffer. -/
def State.enterOff (s : State) (l : LineId) (a : Attempt) : State :=
  let old := (s.line.get l).state
  let s1 := (s.emptyBuffer l).report l a .abortOff
  let s2 := s1.withLine l { s1.line.get l with state := .off, transmitCount := 0, receiveCount := 0, recovery := 0,
                                               rejoin := false }
  ((s2.lineStateReport l old).raise (.ofLine l .lineState)).raise (.ofLine l .caution)

/-- R114, R123, R126, R128, R136: an error detected as sender. -/
def State.transmitErrorOn (s : State) (l : LineId) (kind : ErrorKind) (a : Attempt) : State :=
  let c := s.line.get l
  let s1 := (s.withEngine l (errorFlag c.state 0)).noteError l kind
  let cost := senderCost c.state kind
  if cost ≠ 0 ∧ Config.offLevel ≤ c.transmitCount + cost then s1.enterOff l a
  else ((s1.withCounts l (c.transmitCount + cost) c.receiveCount).emptyBuffer l).report l a .error

/-! ### Received frames -/

/-- R21, R109: a good frame delivered to the block its kind names; R96's unusable frames to none. -/
def State.deliver (s : State) (l : LineId) (w : WireFrame) : State :=
  match w.kind, w.payload with
  | 2, v => if w.tag = 0 then s else s.deliverData l w.tag v
  | 1, _ => if w.tag = 0 then s.deliverRecall l else s.deliverQuery l w.tag
  | 0, [address, cycle] =>
    if beaconInRange address cycle then s.deliverBeacon l address.toNat (cycle.setWidth 4) else s
  | _, _ => s

/-- R109, R124: a good frame counted, and then delivered. -/
def State.takeFrame (s : State) (l : LineId) (w : WireFrame) : State := ((s.countReception l).deliver l w).judgePins

/-- R69, R84: a QUERY or RECALL taken while a frame of this part is in flight on the same line (log 31). -/
def State.queriedInFlight (s : State) (l : LineId) (w : WireFrame) : Bool :=
  (s.sendingAttempt l).isSome && w.kind == 1 && w.legal

/-- R69, R96, R109, R112: a frame from another node that a line's engine reads to its end. A frame that is not
legal is a FORM error. A query that meets the part's own frame leaves that frame in flight. A line that receives
nothing is left as it is. -/
def State.receiveFrame (s : State) (l : LineId) (w : WireFrame) : State :=
  if s.canReceive l then
    if w.legal then (s.withEngine l (.intermission 0)).takeFrame l w else (s.receiveErrorOn l .form).judgePins
  else if s.queriedInFlight l w then s.takeFrame l w
  else s

/-! ### Line states -/

/-- R118, R121, R137: a line taken to DETACHED from another state, up to the report to the cycle unit; the
outcome report comes first (R190 steps 1 and 2). -/
def State.stopLine (s : State) (l : LineId) (x : Ending) : State :=
  let old := s.line.get l
  let s1 := (s.withEngine l .stopped).emptyBuffer l
  let s2 := match old.attempt with
    | some a => s1.report l a x
    | none => s1
  s2.withLine l { s2.line.get l with state := .detached, recovery := 0, rejoin := false }

/-- R121, R190: DETACH of a line. A line already DETACHED only gives the notice (R186). -/
def State.detachLine (s : State) (l : LineId) : State :=
  if s.isDetached l then s.notice l
  else ((s.stopLine l .abortDetach).lineStateReport l (s.line.get l).state).notice l

/-- R18, R19: every entry EMPTY and the change queue empty. -/
def State.emptyAll (s : State) : State := (s.withEntries .empty).withQueue []

/-- R19, R137, R177, R190: CLEAR. The buffers are emptied before the directory, both lines stop before
either notice, and Line A's notice comes before Line B's. -/
def State.clearPart (s : State) : State :=
  let s0 := (s.withFlags .clear).emptyAll
  let s1 := if s.isDetached .a then s0 else s0.stopLine .a .abortClear
  let s2 := if s.isDetached .b then s1 else s1.stopLine .b .abortClear
  let s3 := if s.isDetached .a then s2 else s2.lineStateReport .a (s.line.get .a).state
  let s4 := if s.isDetached .b then s3 else s3.lineStateReport .b (s.line.get .b).state
  (s4.notice .a).notice .b

/-- R119: ATTACH of a DETACHED line. -/
def State.startJoin (s : State) (l : LineId) : State :=
  (s.withLine l { s.line.get l with state := .joining }).withEngine l (.recovering 0)

/-- R120: the line state a join ends in. -/
def LineCtl.joined (c : LineCtl) : LineState :=
  if c.transmitCount < Config.guardedLevel ∧ c.receiveCount < Config.guardedLevel then .active else .guarded

/-- R120: the completion of a join. -/
def State.completeJoin (s : State) (l : LineId) : State :=
  let s1 := (s.withLine l { s.line.get l with state := (s.line.get l).joined }).withEngine l (.idle 0)
  (s1.raise (.ofLine l .lineState)).lineStateReport l .joining

/-- R130: the end of a recovery. -/
def State.endRecovery (s : State) (l : LineId) : State :=
  let c := s.line.get l
  let quiet := { c with transmitCount := 0, receiveCount := 0, recovery := 0, rejoin := false }
  if c.rejoin || (s.applied.line.get l).autoRejoin then
    let s1 := (s.withLine l { quiet with state := .active }).withEngine l (.idle 0)
    (s1.raise (.ofLine l .lineState)).lineStateReport l .off
  else
    let s1 := (s.withLine l { quiet with state := .detached }).withEngine l .stopped
    ((s1.raise (.ofLine l .lineState)).lineStateReport l .off).notice l

/-- R129, R130: an idle sequence in OFF. -/
def State.recoveryStep (s : State) (l : LineId) : State :=
  let c := s.line.get l
  if Config.recoveryLength ≤ c.recovery + 1 then s.endRecovery l
  else (s.withLine l { c with recovery := c.recovery + 1 }).withEngine l (.recovering 0)

/-- R101, R103: the engine can deliver an idle sequence: it is not stopped and in no frame. -/
def Phase.countsIdle : Phase → Bool
  | .recovering _ => true
  | .idle _ => true
  | .intermission _ => true
  | .flagging _ _ _ => true
  | .stopped => false
  | .sending _ => false
  | .receiving _ => false

/-- R101, R120, R129: an idle sequence delivered to the line controller. -/
def State.idleSequenceOn (s : State) (l : LineId) : State :=
  match (s.line.get l).state with
  | .detached => s
  | .joining => s.completeJoin l
  | .active => s.withEngine l (.idle 0)
  | .guarded => s.withEngine l (.idle 0)
  | .off => s.recoveryStep l

end Sys2Proof.Machine
end

