-- ==== Sys2Proof/Machine/Requests.lean ====
section
/-! DEFINITION. Requests: what each of the twenty requests does once the host port has taken it, and its answer (R9 to R15, R25, R28, R50, R56 to R58, R70 to R72, R119, R121, R159, R164, R173, R175 to R177, R184, R185). -/

namespace Sys2Proof.Machine

/-- R175 -/
def requestNop (s : State) : State × Answer := (s, .plain .ok)

/-! ### CLAIM -/

/-- R9: the period and phase of a PERIODIC OUTPUT. -/
def scheduleLegal (period phase : Nat) : Bool :=
  (period == 1 || period == 2 || period == 4 || period == 8 || period == 16) && decide (phase < period)

/-- R12: an entry with nothing but its kind and tag. -/
def Entry.blank (kind : Kind) (tag : Tag) (notify : Bool) : Entry :=
  { state := .live, kind := kind, tag := tag, mask := 0, outTag := 0, value := none, staged := none,
    candidate := none, confirm := 0, refresh := 0, age := 0, mode := .onChange, period := 0, phase := 0,
    stamp := none, notify := notify, oneShot := false, answersRecall := false, held := false,
    publishPending := false, askPending := false, inFlight := { a := false, b := false }, causes := .nothing }

/-- R9, R12: the entry CLAIM's operands describe, LIVE; none where an operand the kind carries is out of range. -/
def claimedEntry (op : ClaimOperands) : Option Entry :=
  let tag := tagOperand op.tag
  let blank (k : Kind) : Entry := .blank k tag (op.options.getLsbD 0)
  let confirm := op.confirm.toNat
  let confirmLegal : Bool := decide (1 ≤ confirm) && decide (confirm ≤ 4)
  if tag = 0 then none
  else
    match kindOperand op.kind with
    | none => none
    | some .input =>
      if confirmLegal then
        some { blank .input with mask := tagOperand op.mask, confirm := confirm, refresh := op.refresh.toNat }
      else none
    | some .output =>
      let e := { blank .output with oneShot := op.options.getLsbD 1, answersRecall := op.options.getLsbD 2 }
      match modeOperand op.mode with
      | none => none
      | some .periodic =>
        if scheduleLegal op.period.toNat op.phase.toNat then
          some { e with mode := .periodic, period := op.period.toNat, phase := op.phase.toNat }
        else none
      | some m => some { e with mode := m }
    | some .bridge =>
      if confirmLegal && tagOperand op.outTag != 0 then
        some { blank .bridge with mask := tagOperand op.mask, outTag := tagOperand op.outTag, confirm := confirm,
                                  refresh := op.refresh.toNat, answersRecall := op.options.getLsbD 2 }
      else none

/-- R10: the index a selector chooses, or the status that refuses it. -/
def State.chooseIndex (s : State) : Selector → Except Status Index
  | .explicit i =>
    match s.entry i with
    | none => .ok i
    | some e => .error (if e.state = .retiring then .busy else .occupied)
  | .lowestFree bank =>
    match indices.find? fun i => bankOf i == bank && (s.entry i).isNone with
    | some i => .ok i
    | none => .error .noSlot

/-- R12: an OUTPUT entry starts LIVE, a receiving one LIVE or FROZEN by its home line's usability. -/
def State.initialState (s : State) (i : Index) (kind : Kind) : EntryState :=
  if kind = .output ∨ s.usable (s.home i) then .live else .frozen

/-- R11: a side of the new entry would break the duplicate guard. -/
def State.duplicates (s : State) (i : Index) (e : Entry) : Bool :=
  s.entries.occupied.any fun x => clash s.applied.bankMap (i, e) x

/-- R9 to R12 -/
def requestClaim (op : ClaimOperands) (s : State) : State × Answer :=
  match selectorOperand op.selector, claimedEntry op with
  | some selector, some e =>
    match s.chooseIndex selector with
    | .error status => (s, .plain status)
    | .ok i =>
      if s.duplicates i e then (s, .plain .duplicate)
      else (s.setEntry i { e with state := s.initialState i e.kind }, { status := .ok, result := [indexByte i] })
  | _, _ => (s, .plain .badArg)

/-! ### The other directory requests -/

/-- R14, R15 -/
def requestRetire (index : Byte) (s : State) : State × Answer :=
  match indexOperand index with
  | none => (s, .plain .badArg)
  | some i =>
    match s.entry i with
    | none => (s, .plain .badState)
    | some e =>
      if e.state = .retiring then (s, .plain .pending)
      else if e.grounded then ((s.emptyEntry i).judgePins, .plain .ok)
      else (s.setEntry i { e with state := .retiring }, .plain .pending)

/-- R28 -/
def requestRead (index : Byte) (s : State) : State × Answer :=
  match indexOperand index with
  | none => (s, .plain .badArg)
  | some i => (s, { status := .ok, result := s.entryView i })

/-- R25: the match LOOKUP runs. -/
def State.lookup (s : State) (l : LineId) (t : Tag) : Side → Option Index
  | .inside => s.receivingMatch l t
  | .outside => s.publishingMatch l t

/-- R25 -/
def requestLookup (line side : Byte) (tag : BitVec 16) (s : State) : State × Answer :=
  match lineOperand line, sideOperand side with
  | some l, some x =>
    if tagOperand tag = 0 then (s, .plain .badArg)
    else
      match s.lookup l (tagOperand tag) x with
      | some i => (s, { status := .ok, result := [indexByte i] })
      | none => (s, .plain .notFound)
  | _, _ => (s, .plain .badArg)

/-- R57, R58: a staged value written into a LIVE or SPENT OUTPUT entry. -/
def Entry.stage (e : Entry) (v : Value) (mode : CycleMode) : Entry :=
  let e1 := { e with state := .live, staged := some v }
  if !e.held && mode == .free then e1.sample .free else e1

/-- R56 to R58 -/
def requestSet (index length : Byte) (value : Vector Byte 8) (s : State) : State × Answer :=
  match indexOperand index, valueOperand length value with
  | some i, some v =>
    match s.entry i with
    | none => (s, .plain .badState)
    | some e =>
      if e.kind ≠ .output then (s, .plain .badKind)
      else if e.state = .live ∨ e.state = .spent then (s.setEntry i (e.stage v (s.mode (s.home i))), .plain .ok)
      else (s, .plain .badState)
  | _, _ => (s, .plain .badArg)

/-- The entry an index byte names for a request on its publishing side, or the refusal (R70, R71). -/
def State.publishingOperand (s : State) (index : Byte) : Except Status (Index × Entry) :=
  match indexOperand index with
  | none => .error .badArg
  | some i =>
    match s.entry i with
    | none => .error .badState
    | some e =>
      if e.kind = .input then .error .badKind
      else if e.state = .retiring then .error .badState
      else .ok (i, e)

/-- R70, R85 -/
def requestPublish (index : Byte) (s : State) : State × Answer :=
  match s.publishingOperand index with
  | .error status => (s, .plain status)
  | .ok (i, e) =>
    if e.state = .spent then (s, .plain .badState)
    else (s.setEntry i { e with publishPending := true }, .plain .ok)

/-- R71, R85 -/
def requestHold (index : Byte) (s : State) : State × Answer :=
  match s.publishingOperand index with
  | .error status => (s, .plain status)
  | .ok (i, e) => (s.setEntry i { e with held := true }, .plain .ok)

/-- R72: HELD cleared; a staged value waiting on a FREE line is sampled at once. -/
def Entry.unhold (e : Entry) (mode : CycleMode) : Entry :=
  let e1 := { e with held := false }
  if e.held && e1.samples && mode == .free then e1.sample .free else e1

/-- R72, R85 -/
def requestRelease (index : Byte) (s : State) : State × Answer :=
  match s.publishingOperand index with
  | .error status => (s, .plain status)
  | .ok (i, e) => (s.setEntry i (e.unhold (s.mode (s.home i))), .plain .ok)

/-- R50 -/
def requestAsk (index : Byte) (s : State) : State × Answer :=
  match indexOperand index with
  | none => (s, .plain .badArg)
  | some i =>
    match s.entry i with
    | none => (s, .plain .badState)
    | some e =>
      if e.kind = .output then (s, .plain .badKind)
      else if e.state = .retiring then (s, .plain .badState)
      else (s.setEntry i { e with askPending := true }, .plain .ok)

/-! ### The queue, the flags, the lines -/

/-- R159: the queue without its head, and the head entry's cause set emptied. -/
def State.takeHead (s : State) (i : Index) (rest : List Index) : State :=
  match s.entry i with
  | some e => (s.setEntry i { e with causes := .nothing }).withQueue rest
  | none => s.withQueue rest

def State.causesAt (s : State) (i : Index) : CauseSet :=
  match s.entry i with
  | some e => e.causes
  | none => .nothing

/-- R159, R166 -/
def requestTake (s : State) : State × Answer :=
  match s.queue with
  | [] => (s.servicePins s, .plain .queueEmpty)
  | i :: rest =>
    ((s.takeHead i rest).servicePins s,
      { status := .ok, result := indexByte i :: causeBytes (s.causesAt i) })

/-- R164 -/
def requestEvents (s : State) : State × Answer := (s, { status := .ok, result := s.eventBytes })

/-- R164, R166, R181 -/
def requestAckEvents (m0 m1 m2 : Byte) (s : State) : State × Answer :=
  ((s.withFlags (s.flags.ack m0 m1 m2)).servicePins s, .plain .ok)

/-- R176 -/
def requestLine (line : Byte) (s : State) : State × Answer :=
  match lineOperand line with
  | none => (s, .plain .badArg)
  | some l => (s, { status := .ok, result := s.lineView l })

/-- R119 -/
def requestAttach (line : Byte) (s : State) : State × Answer :=
  match lineOperand line with
  | none => (s, .plain .badArg)
  | some l =>
    match (s.line.get l).state with
    | .detached => (s.startJoin l, .plain .ok)
    | .joining => (s, .plain .ok)
    | .active => (s, .plain .ok)
    | .guarded => (s, .plain .ok)
    | .off => (s.withLine l { s.line.get l with rejoin := true }, .plain .pending)

/-- R121 -/
def requestDetach (line : Byte) (s : State) : State × Answer :=
  match lineOperand line with
  | none => (s, .plain .badArg)
  | some l => ((s.detachLine l).judgePins, .plain .ok)

/-! ### Settings and CLEAR -/

/-- R182, R184 -/
def requestSettingWrite (item : Byte) (value : BitVec 16) (s : State) : State × Answer :=
  match itemOperand item with
  | none => (s, .plain .badArg)
  | some x =>
    match s.staged.put x value.toNat with
    | none => (s, .plain .badArg)
    | some new => (s.withStaged new, .plain .ok)

/-- R182, R184 -/
def requestSettingRead (item : Byte) (s : State) : State × Answer :=
  match itemOperand item with
  | none => (s, .plain .badArg)
  | some x => (s, { status := .ok, result := s.settingView x })

/-- R185, R186 -/
def requestApply (s : State) : State × Answer :=
  (s.applyStaged.judgePins, .plain (if s.applyStaged.applySet.isNone then .ok else .pending))

/-- R168, R177 -/
def requestClear (s : State) : State × Answer := (s.clearPart.servicePins s, .plain .ok)

end Sys2Proof.Machine
end

