-- ==== Sys2Proof/Machine/Port.lean ====
section
/-! DEFINITION. Port: the host port: transactions, their judgement, and the held response (R170 to R174). -/

namespace Sys2Proof.Machine

/-- R173: a taken request reaches the block that owns it. -/
def runRequest : Request → State → State × Answer
  | .nop, s => requestNop s
  | .claim op, s => requestClaim op s
  | .retire i, s => requestRetire i s
  | .read i, s => requestRead i s
  | .lookup l side t, s => requestLookup l side t s
  | .set i n v, s => requestSet i n v s
  | .publish i, s => requestPublish i s
  | .hold i, s => requestHold i s
  | .release i, s => requestRelease i s
  | .ask i, s => requestAsk i s
  | .take, s => requestTake s
  | .events, s => requestEvents s
  | .ackEvents m0 m1 m2, s => requestAckEvents m0 m1 m2 s
  | .line l, s => requestLine l s
  | .attach l, s => requestAttach l s
  | .detach l, s => requestDetach l s
  | .settingWrite item v, s => requestSettingWrite item v s
  | .settingRead item, s => requestSettingRead item s
  | .apply, s => requestApply s
  | .clear, s => requestClear s

/-- R171: the held response replaced at the rise of nCS. -/
def State.hold (s : State) (r : Response) : State := s.withPort { s.port with held := r }

/-- R171: the held response shifted out on MISO at the transaction's edges. -/
def State.shift (s : State) (edges : Nat) : State :=
  s.withPort { s.port with miso := s.port.held.shiftOut edges }

/-- R174: the rise of nCS that ends a transaction begun before the release of nRST. What MISO carried in it is not
recorded (log 30). -/
def State.endWait (s : State) : State := s.withPort { s.port with awaitRise := false }

/-- R170, R171, R174: a transaction with at least one edge. Nothing is taken while nRST is low, or from a
transaction that began before its release. -/
def State.transaction (s : State) (edges : Nat) (judged : State → State × Response) : State :=
  if s.port.inReset then s
  else if s.port.awaitRise then s.endWait
  else
    let x := judged (s.shift edges)
    x.1.hold x.2

/-- R172, case 4, and R173: the request is taken and its answer becomes the response. -/
def takeRequest (r : Request) (s : State) : State × Response :=
  let x := runRequest r s
  (x.1, x.2.response r.responseLength)

/-- R172: a transaction not taken. -/
def notTaken (x : Status) (s : State) : State × Response := (s, { status := x, result := [] })

/-- R172: the required length, from the request's length and the held response's. -/
def State.requiredLength (s : State) (requestLength : Nat) : Nat := max requestLength s.port.held.length

/-- R172: a transaction that clocks a request's bytes and then filler bytes. -/
def State.hostRequest (s : State) (r : Request) (filler : Nat) : State :=
  let length := r.length + filler
  s.transaction (8 * length) fun s1 =>
    if length = s1.requiredLength r.length then takeRequest r s1 else notTaken .framing s1

/-- R172: the judgement of a transaction given by its complete bytes and the edges after them. -/
def judgeBytes (bytes : List Byte) (extra : Nat) (s : State) : State × Response :=
  match extra, bytes with
  | 0, code :: rest =>
    match requestLength code, decodeRequest (code :: rest) with
    | none, _ => notTaken .badRequest s
    | some n, some r =>
      if (code :: rest).length = s.requiredLength n then takeRequest r s else notTaken .framing s
    | some _, none => notTaken .framing s
  | _, _ => notTaken .framing s

/-- R170: a transaction without an edge is ignored; R174: it can be the one that nRST cut. -/
def State.noTransaction (s : State) : State :=
  if s.port.inReset then s else if s.port.awaitRise then s.endWait else s

/-- R170, R172: a transaction as it is clocked. -/
def State.rawTransaction (s : State) (bytes : List Byte) (extra : Nat) : State :=
  if 8 * bytes.length + extra = 0 then s.noTransaction
  else s.transaction (8 * bytes.length + extra) (judgeBytes bytes extra)

end Sys2Proof.Machine
end

