-- ==== Sys2Proof/Machine/Resets.lean ====
section
/-! DEFINITION. Resets: POWER_ON, NRST_ASSERT and NRST_RELEASE (R20, R171, R174). -/

namespace Sys2Proof.Machine

/-- Every block at its default (R20); the commands and line bits still to come are the outside's and stay (log 18). -/
def State.defaults (s : State) : State := { State.reset with samples := s.samples, pending := s.pending }

/-- R20, R171: power comes on with nRST and nCS high, so the port is open whatever it was before (log 29). -/
def execPowerOn (s : State) : Host.Outcome State Fault Refusal := .next s.defaults

/-- R174: the port stops taking requests and the reset replaces every block's state (log 4). -/
def execNrstAssert (s : State) : Host.Outcome State Fault Refusal :=
  .next (s.defaults.withPort { State.reset.port with inReset := true })

/-- R20, R174: every block at its default; a transaction whose nCS is already low is waited out. -/
def execNrstRelease (ncsLow : Bool) (s : State) : Host.Outcome State Fault Refusal :=
  .next (s.defaults.withPort { State.reset.port with awaitRise := ncsLow })

end Sys2Proof.Machine
end

