-- ==== Sys2Proof/Machine/HostCommands.lean ====
section
/-! DEFINITION. HostCommands: the meanings of the host's transactions, one per row: each request with its filler, and the three rows of transactions that carry no taken request (R170 to R174). -/

namespace Sys2Proof.Machine

/-- R170 -/
def execEmptyTransaction (s : State) : Host.Outcome State Fault Refusal := .next s.noTransaction

/-- R172 (log 7) -/
def execTransactionRejected (bytes : List Byte) (edges : Fin 8) (s : State) : Host.Outcome State Fault Refusal :=
  .next (s.rawTransaction bytes edges.val)

/-- R174 -/
def execTransactionAcrossReset (s : State) : Host.Outcome State Fault Refusal := .next s.noTransaction

/-- R175, taken under R172. -/
def execNop (filler : Nat) (s : State) : Host.Outcome State Fault Refusal :=
  .next (s.hostRequest .nop filler)

/-- R9 to R12, taken under R172. -/
def execClaim (operands : ClaimOperands) (filler : Nat) (s : State) : Host.Outcome State Fault Refusal :=
  .next (s.hostRequest (.claim operands) filler)

/-- R14, R15, taken under R172. -/
def execRetire (index : Byte) (filler : Nat) (s : State) : Host.Outcome State Fault Refusal :=
  .next (s.hostRequest (.retire index) filler)

/-- R28, R180, taken under R172. -/
def execRead (index : Byte) (filler : Nat) (s : State) : Host.Outcome State Fault Refusal :=
  .next (s.hostRequest (.read index) filler)

/-- R25, taken under R172. -/
def execLookup (line : Byte) (side : Byte) (tag : BitVec 16) (filler : Nat) (s : State) : Host.Outcome State Fault Refusal :=
  .next (s.hostRequest (.lookup line side tag) filler)

/-- R56 to R58, taken under R172. -/
def execSet (index : Byte) (length : Byte) (value : Vector Byte 8) (filler : Nat) (s : State) : Host.Outcome State Fault Refusal :=
  .next (s.hostRequest (.set index length value) filler)

/-- R70, R85, taken under R172. -/
def execPublish (index : Byte) (filler : Nat) (s : State) : Host.Outcome State Fault Refusal :=
  .next (s.hostRequest (.publish index) filler)

/-- R71, R85, taken under R172. -/
def execHold (index : Byte) (filler : Nat) (s : State) : Host.Outcome State Fault Refusal :=
  .next (s.hostRequest (.hold index) filler)

/-- R72, R85, taken under R172. -/
def execRelease (index : Byte) (filler : Nat) (s : State) : Host.Outcome State Fault Refusal :=
  .next (s.hostRequest (.release index) filler)

/-- R50, taken under R172. -/
def execAsk (index : Byte) (filler : Nat) (s : State) : Host.Outcome State Fault Refusal :=
  .next (s.hostRequest (.ask index) filler)

/-- R159, R166, taken under R172. -/
def execTake (filler : Nat) (s : State) : Host.Outcome State Fault Refusal :=
  .next (s.hostRequest .take filler)

/-- R164, taken under R172. -/
def execEvents (filler : Nat) (s : State) : Host.Outcome State Fault Refusal :=
  .next (s.hostRequest .events filler)

/-- R164, R166, R181, taken under R172. -/
def execAckEvents (mask0 : Byte) (mask1 : Byte) (mask2 : Byte) (filler : Nat) (s : State) : Host.Outcome State Fault Refusal :=
  .next (s.hostRequest (.ackEvents mask0 mask1 mask2) filler)

/-- R176, taken under R172. -/
def execLine (line : Byte) (filler : Nat) (s : State) : Host.Outcome State Fault Refusal :=
  .next (s.hostRequest (.line line) filler)

/-- R119, taken under R172. -/
def execAttach (line : Byte) (filler : Nat) (s : State) : Host.Outcome State Fault Refusal :=
  .next (s.hostRequest (.attach line) filler)

/-- R121, R190, taken under R172. -/
def execDetach (line : Byte) (filler : Nat) (s : State) : Host.Outcome State Fault Refusal :=
  .next (s.hostRequest (.detach line) filler)

/-- R184, taken under R172. -/
def execSettingWrite (item : Byte) (value : BitVec 16) (filler : Nat) (s : State) : Host.Outcome State Fault Refusal :=
  .next (s.hostRequest (.settingWrite item value) filler)

/-- R184, taken under R172. -/
def execSettingRead (item : Byte) (filler : Nat) (s : State) : Host.Outcome State Fault Refusal :=
  .next (s.hostRequest (.settingRead item) filler)

/-- R185, R186, taken under R172. -/
def execApply (filler : Nat) (s : State) : Host.Outcome State Fault Refusal :=
  .next (s.hostRequest .apply filler)

/-- R177, R19, R168, taken under R172. -/
def execClear (filler : Nat) (s : State) : Host.Outcome State Fault Refusal :=
  .next (s.hostRequest .clear filler)

end Sys2Proof.Machine
end

