-- ==== Sys2Proof/Machine/LineCommands.lean ====
section
/-! DEFINITION. LineCommands: the meanings of the rows that come from the field lines, from the part's own attempts and from its timers. Where the conditions of an event do not hold, the event does not happen and the state stays as it is (R115, R122, R154; log 3). -/

namespace Sys2Proof.Machine

/-! ### Frames received -/

/-- R21, R30, R77, R96, R109 -/
def execDataFrame (line : LineId) (tag : Tag) (payload : List Byte) (s : State) : Host.Outcome State Fault Refusal :=
  .next (s.receiveFrame line { tag := tag, kind := 2, payload := payload })

/-- R21, R67, R84, R109 -/
def execQueryFrame (line : LineId) (tag : Tag) (s : State) : Host.Outcome State Fault Refusal :=
  .next (s.receiveFrame line { tag := tag, kind := 1, payload := [] })

/-- R21, R68, R84, R109 -/
def execRecallFrame (line : LineId) (s : State) : Host.Outcome State Fault Refusal :=
  .next (s.receiveFrame line { tag := 0, kind := 1, payload := [] })

/-- R96, R109, R139, R144, R152 -/
def execBeaconFrame (line : LineId) (address cycle : Byte) (s : State) : Host.Outcome State Fault Refusal :=
  .next (s.receiveFrame line { tag := 0, kind := 0, payload := [address, cycle] })

/-- R96, R109, R124 -/
def execDiscardedFrame (line : LineId) (frame : WireFrame) (s : State) : Host.Outcome State Fault Refusal :=
  .next (s.receiveFrame line frame)

/-- R112 to R114, R123 -/
def execReceiveError (line : LineId) (kind : ErrorKind) (s : State) : Host.Outcome State Fault Refusal :=
  .next (if s.canReceive line && kind.ofReceiver then (s.receiveErrorOn line kind).judgePins else s)

/-! ### The part's own attempts -/

/-- R133 to R135 -/
def execTransmitSelection (line : LineId) (s : State) : Host.Outcome State Fault Refusal :=
  .next (match s.selection line with
    | some a => s.copyFrame line a
    | none => s)

/-- R110, R124, R136: the count, then the report; the engine passes to INTERMISSION. -/
def State.transmitSucceeds (s : State) (l : LineId) (a : Attempt) : State :=
  ((((s.withEngine l (.intermission 0)).countTransmission l).emptyBuffer l).report l a .success).judgePins

/-- R110 -/
def execTransmitSuccess (line : LineId) (s : State) : Host.Outcome State Fault Refusal :=
  .next (match s.sendingAttempt line with
    | some a => s.transmitSucceeds line a
    | none => s)

/-- R104: the phase of a sender that has lost: it has read the winning frame from its SOF (log 11). -/
def Phase.lose : Phase → Phase
  | .sending bits => .receiving (some bits)
  | _ => .receiving none

/-- R104, R136 -/
def State.losesArbitration (s : State) (l : LineId) (a : Attempt) : State :=
  (((s.withEngine l (s.engine.get l).lose).emptyBuffer l).report l a .loss).judgePins

/-- R104 -/
def execArbitrationLoss (line : LineId) (s : State) : Host.Outcome State Fault Refusal :=
  .next (match s.sendingAttempt line with
    | some a => s.losesArbitration line a
    | none => s)

/-- R103: the copied frame has not begun. -/
def Phase.isIdle : Phase → Bool
  | .idle _ => true
  | _ => false

/-- R103, R136: the attempt ends as an arbitration loss, and the part receives from the SOF on. -/
def State.collides (s : State) (l : LineId) (a : Attempt) : State :=
  (((s.withEngine l (.receiving (some []))).emptyBuffer l).report l a .loss).judgePins

/-- R103 -/
def execStartCollision (line : LineId) (s : State) : Host.Outcome State Fault Refusal :=
  .next (match s.sendingAttempt line, (s.engine.get line).isIdle with
    | some a, true => s.collides line a
    | _, _ => s)

/-- R114, R123, R128 -/
def execTransmitError (line : LineId) (kind : ErrorKind) (s : State) : Host.Outcome State Fault Refusal :=
  .next (match s.sendingAttempt line, kind.ofSender with
    | some a, true => (s.transmitErrorOn line kind a).judgePins
    | _, _ => s)

/-! ### Idle sequences and time -/

/-- R101, R120, R129, R130 -/
def execIdleSequence (line : LineId) (s : State) : Host.Outcome State Fault Refusal :=
  .next (if (s.engine.get line).countsIdle then (s.idleSequenceOn line).judgePins else s)

/-- R149 -/
def execPeriodExpiry (line : LineId) (s : State) : Host.Outcome State Fault Refusal :=
  .next (match (s.cycle.get line).periodTimer with
    | .running _ => s.periodExpires line
    | .stopped => s)

/-- R147, R153 -/
def execWatchExpiry (line : LineId) (s : State) : Host.Outcome State Fault Refusal :=
  .next (match (s.cycle.get line).watchTimer with
    | .running _ => (s.watchExpires line).judgePins
    | .stopped => s)

/-- R167: the pin is asserted if it then has demand. -/
def execRepulseWindowEnd (pin : PinId) (s : State) : Host.Outcome State Fault Refusal :=
  .next (match s.pins.get pin with
    | .repulse => s.withPins (s.pins.put pin (pinFor (s.demand pin)))
    | _ => s)

end Sys2Proof.Machine
end

