-- ==== Sys2Proof/Machine/Engine.lean ====
section
/-! DEFINITION. Engine: the frame engines bit by bit (R93, R94, R98 to R113): the level each drives, and what each does with one bit. An engine reports what it finds as commands, which the next steps run (log 2, log 10). -/

namespace Sys2Proof.Machine

/-- The bit a sender drives next, after the bits read back since SOF (R95, R98). -/
def nextBit (a : Attempt) (bits : List Bool) : Bool := (lineBits a.frame.wire).getD bits.length true

/-- R108: a receiver drives the ack slot dominant; it reaches it only with a good check. -/
def inAckSlot (bits : List Bool) : Bool := decide (bits.length = regionLength (readLength bits)) && decide (20 ≤ bits.length)

/-- R93, R94, R103, R108, R113: the level ATX or BTX drives in the bit about to come, true for recessive. A copied
frame begins with a dominant SOF, unless another node's SOF is already on the line when the bit begins. -/
def State.drives (s : State) (l : LineId) (dominantAtStart : Bool) : Bool :=
  match s.engine.get l, (s.line.get l).attempt with
  | .idle _, some _ => dominantAtStart
  | .sending bits, some a => nextBit a bits
  | .receiving (some bits), _ => !inAckSlot bits
  | .flagging true 0 _, _ => false
  | _, _ => true

/-- R109: the command that a completed frame is. -/
def frameCommand (l : LineId) (w : WireFrame) : Instr :=
  match w.kind, w.payload with
  | 2, v => if w.tag = 0 then .discardedFrame l w else .dataFrame l w.tag v
  | 1, _ => if w.tag = 0 then .recallFrame l else .queryFrame l w.tag
  | 0, [address, cycle] => if beaconInRange address cycle then .beaconFrame l address cycle else .discardedFrame l w
  | _, _ => .discardedFrame l w

/-- What a receiver's verdict reports. -/
def receiverReport (l : LineId) (bits : List Bool) : List Instr :=
  match receiverVerdict bits with
  | .more => []
  | .lost => []
  | .error kind => [.receiveError l kind]
  | .complete => [frameCommand l (readFrame bits)]

/-- What a sender's verdict reports. A sender that loses is a receiver from the losing bit on (R104, R106). -/
def senderReport (l : LineId) (a : Attempt) (bits : List Bool) : List Instr :=
  match senderVerdict a.frame.wire bits with
  | .more => []
  | .lost => .arbitrationLoss l :: receiverReport l bits
  | .error kind => [.transmitError l kind]
  | .complete => [.transmitSuccess l]

/-- The engine's phase after a bit, and what it reports. -/
structure BitResult where
  phase : Phase
  reports : List Instr

/-- R101: one more recessive bit counted toward an idle sequence. -/
def countIdle (l : LineId) (count : Nat) (phase : Nat → Phase) : BitResult :=
  if count + 1 = Config.idleBits then { phase := phase 0, reports := [.idleSequence l] }
  else { phase := phase (count + 1), reports := [] }

/-- R94, R101 to R103: IDLE. With a frame copied the engine begins it, or meets another node's SOF. -/
def idleBit (l : LineId) (count : Nat) (attempt : Option Attempt) (x : LineBit) : BitResult :=
  match attempt with
  | some _ =>
    if x.dominantAtStart then { phase := .idle count, reports := [.startCollision l] }
    else if x.level then { phase := .idle count, reports := [.transmitError l .bit] }
    else { phase := .sending [], reports := [] }
  | none =>
    if x.level then countIdle l count .idle else { phase := .receiving (some []), reports := [] }

/-- R94, R113: FLAGGING. -/
def flagBit (active : Bool) (wait sent : Nat) : BitResult :=
  match wait with
  | w + 1 => { phase := .flagging active w sent, reports := [] }
  | 0 =>
    if sent + 1 = Config.flagBits then { phase := .recovering 0, reports := [] }
    else { phase := .flagging active 0 (sent + 1), reports := [] }

/-- R94: one bit at an engine. -/
def bitAt (l : LineId) (phase : Phase) (attempt : Option Attempt) (x : LineBit) : BitResult :=
  match phase with
  | .stopped => { phase := .stopped, reports := [] }
  | .recovering count =>
    if x.level then countIdle l count .recovering else { phase := .recovering 0, reports := [] }
  | .idle count => idleBit l count attempt x
  | .sending bits =>
    match attempt with
    | some a => { phase := .sending (bits ++ [x.level]), reports := senderReport l a (bits ++ [x.level]) }
    | none => { phase := .sending bits, reports := [] }
  | .receiving none => { phase := .receiving none, reports := [] }
  | .receiving (some bits) =>
    { phase := .receiving (some (bits ++ [x.level])), reports := receiverReport l (bits ++ [x.level]) }
  | .intermission count =>
    if x.level then
      if count + 1 = Config.intermissionBits then { phase := .idle 0, reports := [.idleSequence l] }
      else { phase := .intermission (count + 1), reports := [] }
    else { phase := .receiving (some []), reports := [] }
  | .flagging active wait sent => flagBit active wait sent

/-- One line bit taken: the engine of its line moves, and its reports wait to be run. -/
def State.bit (s : State) (x : LineBit) : State :=
  let r := bitAt x.line (s.engine.get x.line) (s.line.get x.line).attempt x
  (s.withEngine x.line r.phase).withPending (s.pending ++ r.reports)

/-- What the part does with no command waiting: a selection that is due (R133), otherwise the next line bit
(log 2), otherwise nothing. -/
def State.idleStep (s : State) : State :=
  if (s.selection .a).isSome then s.withPending [.transmitSelection .a]
  else if (s.selection .b).isSome then s.withPending [.transmitSelection .b]
  else
    match s.samples with
    | [] => s
    | x :: rest => (s.withSamples rest).bit x

end Sys2Proof.Machine
end

