-- ==== Sys2Proof/Machine/Dispatch.lean ====
section
/-! DEFINITION. Dispatch: one arm per command, one direct call of its meaning. -/

namespace Sys2Proof.Machine

def exec (i : Instr) (s : State) : Host.Outcome State Fault Refusal :=
  match i with
  | .powerOn => Sys2Proof.Machine.execPowerOn s
  | .nrstAssert => Sys2Proof.Machine.execNrstAssert s
  | .nrstRelease ncsLow => Sys2Proof.Machine.execNrstRelease ncsLow s
  | .emptyTransaction => Sys2Proof.Machine.execEmptyTransaction s
  | .transactionRejected bytes edges => Sys2Proof.Machine.execTransactionRejected bytes edges s
  | .nop filler => Sys2Proof.Machine.execNop filler s
  | .claim operands filler => Sys2Proof.Machine.execClaim operands filler s
  | .retire index filler => Sys2Proof.Machine.execRetire index filler s
  | .read index filler => Sys2Proof.Machine.execRead index filler s
  | .lookup line side tag filler => Sys2Proof.Machine.execLookup line side tag filler s
  | .set index length value filler => Sys2Proof.Machine.execSet index length value filler s
  | .publish index filler => Sys2Proof.Machine.execPublish index filler s
  | .hold index filler => Sys2Proof.Machine.execHold index filler s
  | .release index filler => Sys2Proof.Machine.execRelease index filler s
  | .ask index filler => Sys2Proof.Machine.execAsk index filler s
  | .take filler => Sys2Proof.Machine.execTake filler s
  | .events filler => Sys2Proof.Machine.execEvents filler s
  | .ackEvents mask0 mask1 mask2 filler => Sys2Proof.Machine.execAckEvents mask0 mask1 mask2 filler s
  | .line line filler => Sys2Proof.Machine.execLine line filler s
  | .attach line filler => Sys2Proof.Machine.execAttach line filler s
  | .detach line filler => Sys2Proof.Machine.execDetach line filler s
  | .settingWrite item value filler => Sys2Proof.Machine.execSettingWrite item value filler s
  | .settingRead item filler => Sys2Proof.Machine.execSettingRead item filler s
  | .apply filler => Sys2Proof.Machine.execApply filler s
  | .clear filler => Sys2Proof.Machine.execClear filler s
  | .dataFrame line tag payload => Sys2Proof.Machine.execDataFrame line tag payload s
  | .queryFrame line tag => Sys2Proof.Machine.execQueryFrame line tag s
  | .recallFrame line => Sys2Proof.Machine.execRecallFrame line s
  | .beaconFrame line address cycle => Sys2Proof.Machine.execBeaconFrame line address cycle s
  | .discardedFrame line frame => Sys2Proof.Machine.execDiscardedFrame line frame s
  | .receiveError line kind => Sys2Proof.Machine.execReceiveError line kind s
  | .transmitSelection line => Sys2Proof.Machine.execTransmitSelection line s
  | .transmitSuccess line => Sys2Proof.Machine.execTransmitSuccess line s
  | .arbitrationLoss line => Sys2Proof.Machine.execArbitrationLoss line s
  | .startCollision line => Sys2Proof.Machine.execStartCollision line s
  | .transmitError line kind => Sys2Proof.Machine.execTransmitError line kind s
  | .idleSequence line => Sys2Proof.Machine.execIdleSequence line s
  | .periodExpiry line => Sys2Proof.Machine.execPeriodExpiry line s
  | .watchExpiry line => Sys2Proof.Machine.execWatchExpiry line s
  | .repulseWindowEnd pin => Sys2Proof.Machine.execRepulseWindowEnd pin s
  | .transactionAcrossReset => Sys2Proof.Machine.execTransactionAcrossReset s

end Sys2Proof.Machine
end

