-- ==== Sys2Proof/Machine/Step.lean ====
section
/-! DEFINITION. Step: one step of the part: the command at the front of the queue, or what the part does of itself when none waits (log 1, log 2). -/

namespace Sys2Proof.Machine

/-- The command at the front of the queue is run on the state with the queue's rest; with no command waiting
the part goes on by itself. -/
def step (s : State) : Host.Outcome State Fault Refusal :=
  match s.pending with
  | [] => .next s.idleStep
  | c :: rest => exec c (s.withPending rest)

/-- The command that a word spells put at the front of the queue; the opcode table gives no row bits. -/
def State.withFetchWord (s : State) (nbits w : Nat) : State :=
  match decodeTableWord nbits w with
  | some c => s.withPending (c :: s.pending)
  | none => s

end Sys2Proof.Machine
end

