-- ==== Sys2Proof/Safety.lean ====
section
/-! DEFINITION. Safety: what the spec says holds of the part at all times, as predicates of a state, and the vocabulary the statements of Certificates/Slice0/Obligations.lean are written in. -/

namespace Sys2Proof.Safety

open Sys2Proof.Machine

/-! ### The line controllers -/

/-- R116, R123, R125, R129 to R131: the counts stay in their ranges and agree with the line state. -/
abbrev CountsAgree (c : LineCtl) : Prop :=
  c.transmitCount < Config.offLevel ∧ c.receiveCount ≤ Config.receiveCeiling ∧
  (c.state = .active → c.transmitCount < Config.guardedLevel ∧ c.receiveCount < Config.guardedLevel) ∧
  (c.state = .guarded → Config.guardedLevel ≤ c.transmitCount ∨ Config.guardedLevel ≤ c.receiveCount) ∧
  (c.state = .off → c.transmitCount = 0 ∧ c.receiveCount = 0 ∧ c.recovery < Config.recoveryLength) ∧
  (c.state ≠ .off → c.recovery = 0 ∧ c.rejoin = false)

/-- R94, R117: the phases a line state allows. -/
def phaseAllowed : LineState → Phase → Bool
  | .detached, .stopped => true
  | .joining, .recovering _ => true
  | .off, .recovering _ => true
  | .off, .flagging active _ _ => !active
  | .active, .stopped => false
  | .active, _ => true
  | .guarded, .stopped => false
  | .guarded, _ => true
  | _, _ => false

/-- R94: a frame is copied only while the engine is idle or sending it. -/
def phaseHolds : Phase → Option Attempt → Bool
  | .idle _, _ => true
  | .sending _, a => a.isSome
  | _, a => a.isNone

/-- R94, R101, R113: the counts an engine keeps stay below their ends. -/
def phaseInRange : Phase → Bool
  | .recovering n => decide (n < Config.idleBits)
  | .idle n => decide (n < Config.idleBits)
  | .intermission n => decide (n < Config.intermissionBits)
  | .flagging _ wait sent => decide (wait ≤ 1) && decide (sent < Config.flagBits)
  | .stopped => true
  | .sending _ => true
  | .receiving _ => true

/-- R94, R117, R132: engine, line state and buffer agree. -/
abbrev EngineAgrees (s : State) (l : LineId) : Prop :=
  phaseAllowed (s.line.get l).state (s.engine.get l) = true ∧
  phaseHolds (s.engine.get l) (s.line.get l).attempt = true ∧
  phaseInRange (s.engine.get l) = true ∧
  ((s.line.get l).attempt.isSome = true → s.participates l = true)

/-! ### Frames in flight -/

/-- The entry an attempt belongs to. -/
def ownerEntry : Option Attempt → Option Index
  | some { owner := .publish i, .. } => some i
  | some { owner := .ask i, .. } => some i
  | _ => none

/-- R97: the frame is the one its owner sends. -/
def frameOfOwner : Attempt → Bool
  | { owner := .beacon, frame := .beacon _ _ } => true
  | { owner := .publish _, frame := .data _ _ } => true
  | { owner := .ask _, frame := .query _ } => true
  | _ => false

/-- R132, R134: the line is the one the entry's side lies on. -/
abbrev OwnerOnLine (s : State) (l : LineId) (a : Attempt) : Prop :=
  match a.owner with
  | .beacon => True
  | .publish i =>
    ∃ e, s.entry i = some e ∧
      ((e.kind = .output ∧ s.home i = l) ∨ (e.kind = .bridge ∧ (s.home i).other = l))
  | .ask i => ∃ e, s.entry i = some e ∧ e.kind ≠ .output ∧ s.home i = l

/-- R6, R15, R132: the directory's in-flight lines and the controllers' frames in flight agree; a RETIRING
entry has a frame in flight; only a line that takes part has one. -/
structure FlightAgrees (s : State) : Prop where
  entry : ∀ i e l, s.entry i = some e → (e.inFlight.get l = true ↔ ownerEntry (s.line.get l).attempt = some i)
  occupied : ∀ i l, ownerEntry (s.line.get l).attempt = some i → (s.entry i).isSome = true
  retiring : ∀ i e, s.entry i = some e → e.state = .retiring → e.grounded = false
  onLine : ∀ l a, (s.line.get l).attempt = some a → OwnerOnLine s l a ∧ frameOfOwner a = true
  partakes : ∀ l, (s.line.get l).attempt.isSome = true → s.participates l = true

/-! ### The directory -/

/-- R4, R5, R9, R33 to R35, R38, R39, R75: the fields of an entry stay in their ranges and agree. -/
structure EntryFits (e : Entry) : Prop where
  tag : e.tag ≠ 0
  state : if e.kind = .output then e.state ≠ .stale ∧ e.state ≠ .frozen else e.state ≠ .spent
  spent : e.state = .spent → e.oneShot = true ∧ e.publishPending = false
  values : (∀ v, e.value = some v → v.length ≤ 8) ∧ (∀ v, e.staged = some v → v.length ≤ 8) ∧
    (∀ c, e.candidate = some c → c.value.length ≤ 8)
  receiving : e.kind ≠ .output → 1 ≤ e.confirm ∧ e.confirm ≤ 4 ∧ e.staged = none
  candidate : ∀ c, e.candidate = some c → 1 ≤ c.run ∧ c.run < e.confirm ∧ e.value ≠ some c.value ∧ e.state ≠ .frozen
  age : e.age ≤ Config.ageCeiling ∧ e.refresh ≤ Config.ageCeiling
  stale : e.state = .stale → e.refresh ≠ 0 ∧ e.refresh ≤ e.age
  fresh : e.kind ≠ .output → e.state = .live → e.refresh ≠ 0 → e.age < e.refresh
  output : e.kind = .output → e.candidate = none ∧ e.confirm = 0 ∧ e.refresh = 0 ∧ e.askPending = false
  input : e.kind = .input → e.publishPending = false ∧ e.held = false
  schedule : if e.mode = .periodic then e.kind = .output ∧ scheduleLegal e.period e.phase = true
    else e.period = 0 ∧ e.phase = 0
  outTag : e.kind = .bridge ↔ e.outTag ≠ 0

/-- R43: an entry with a receiving side is never SPENT, and unless it is RETIRING it is FROZEN exactly while its home
line is not usable. -/
abbrev FrozenAgrees (s : State) : Prop :=
  ∀ i e, s.entry i = some e → e.kind ≠ .output →
    e.state ≠ .spent ∧ (e.state ≠ .retiring → (e.state = .frozen ↔ s.usable (s.home i) = false))

/-- R26: the duplicate guard. -/
abbrev GuardHolds (s : State) : Prop := guardHolds s.applied.bankMap s.entries = true

/-! ### The change queue and the pins -/

/-- R157: each queued index stands once, and an index is queued exactly while its entry has NOTIFY and a cause. -/
structure QueueAgrees (s : State) : Prop where
  once : s.queue.Nodup
  occupied : ∀ i, i ∈ s.queue → (s.entry i).isSome = true
  queued : ∀ i e, s.entry i = some e → (i ∈ s.queue ↔ e.notify = true ∧ e.causes ≠ .nothing)

/-- R165, R167: outside a window a pin is asserted exactly while it has demand. -/
abbrev PinsAgree (s : State) : Prop :=
  ∀ p, s.pins.get p ≠ .repulse → (s.pins.get p = .asserted ↔ s.demand p = true)

/-! ### The cycle units -/

/-- R138 to R142, R147, R149, R150, R152: a cycle unit's state agrees with its line and its settings. -/
structure UnitAgrees (s : State) (l : LineId) : Prop where
  free : s.mode l = .free ↔ (s.cycle.get l).sync = .free
  holdOff : (s.cycle.get l).holdOff ≤ 3 ∧ ((s.cycle.get l).holdOff ≠ 0 ↔ (s.cycle.get l).sync = .regaining)
  watch : (s.cycle.get l).watchTimer ≠ .stopped ↔
    (s.cycle.get l).sync = .regaining ∨ (s.cycle.get l).sync = .synced
  period : (s.cycle.get l).periodTimer ≠ .stopped ↔
    s.mode l = .beaconed ∧ s.participates l = true ∧ (s.cycle.get l).acting = .source
  follower : (s.applied.line.get l).role = .follower → (s.cycle.get l).acting = .follower
  sourceOnly : (s.cycle.get l).due = true ∨ (s.cycle.get l).fresh = true →
    s.mode l = .beaconed ∧ s.participates l = true ∧ (s.cycle.get l).acting = .source
  apart : s.participates l = false →
    (s.cycle.get l).sync = idleSync (s.mode l) ∧ (s.cycle.get l).acting = (s.applied.line.get l).role
  ownBeacon : ∀ a, (s.line.get l).attempt = some a → a.owner = .beacon ∨ (∃ n k, a.frame = .beacon n k) →
    s.mode l = .beaconed
  partakes : (s.line.get l).attempt.isSome = true → s.participates l = true

/-! ### The settings unit -/

/-- R183, R184: the ranges of a line's items. -/
abbrev LineItemsFit (x : LineSettings) : Prop :=
  1 ≤ x.nodeAddress ∧ x.nodeAddress ≤ 63 ∧ 2 ≤ x.cyclePeriod ∧ x.cyclePeriod ≤ 250 ∧ 1 ≤ x.caution ∧ x.caution ≤ 99

abbrev SettingsFit (x : Settings) : Prop := LineItemsFit x.line.a ∧ LineItemsFit x.line.b

/-- R183: every copy of every item is in its range. -/
abbrev CopiesFit (s : State) : Prop :=
  SettingsFit s.staged ∧ SettingsFit s.applied ∧ ∀ p, s.applySet = some p → SettingsFit p.values

/-- R185, R186, R188: a pending apply set has a portion that waits, and each portion that waits has a reason. -/
structure SetWaits (s : State) : Prop where
  waits : ∀ p, s.applySet = some p → p.lineWaiting.a = true ∨ p.lineWaiting.b = true ∨ p.bankWaiting = true
  line : ∀ p l, s.applySet = some p → p.lineWaiting.get l = true →
    s.isDetached l = false ∧ p.values.line.get l ≠ s.applied.line.get l
  bank : ∀ p, s.applySet = some p → p.bankWaiting = true →
    movesBank s.applied.bankMap p.values.bankMap = true ∧ (s.isDetached .a = false ∨ s.isDetached .b = false)

/-! ### The host port -/

/-- R20, R174: while nRST is low every block stands at its default. -/
abbrev ResetHeld (s : State) : Prop :=
  s.port.inReset = true →
    s = { State.reset with port := { State.reset.port with inReset := true }, samples := s.samples, pending := s.pending }

/-- R171, R179: the held response is a status byte and at most 45 result bytes. -/
abbrev ResponseFits (s : State) : Prop := s.port.held.result.length ≤ 45

/-! ### Every block at its default -/

/-- R2, R116, R138, R157, R162, R165, R168, R171, R183: the values the spec gives every block after power-on and nRST. -/
structure AtDefaults (s : State) : Prop where
  entries : ∀ i, s.entry i = none
  queue : s.queue = []
  line : ∀ l, s.line.get l =
    { state := .detached, transmitCount := 0, receiveCount := 0, recovery := 0, lastError := none, rejoin := false,
      attempt := none }
  engine : ∀ l, s.engine.get l = .stopped
  cycle : ∀ l, s.cycle.get l =
    { sync := .unsynced, holdOff := 0, cycle := 0, acting := .follower, fresh := false, due := false,
      periodTimer := .stopped, watchTimer := .stopped }
  flags : ∀ f, s.flag f = false
  pins : ∀ p, s.pins.get p = .released
  items : ∀ l, s.applied.line.get l =
    { rate := .kbit125, nodeAddress := 1, cycleMode := .beaconed, role := .follower, cyclePeriod := 10,
      autoRejoin := false, caution := 80 }
  banks : s.applied.bankMap = { bank0 := .a, bank1 := .a, bank2 := .b, bank3 := .b }
  routes : ∀ f, s.applied.routes.get f =
    if f = .queueReady then .irq else if f = .ofLine .a .lineState ∨ f = .ofLine .b .lineState then .alert else .none
  staged : s.staged = s.applied
  noSet : s.applySet = none

/-! ### Requests and their transactions -/

/-- The request a command carries, with its filler bytes (R172). -/
def requestOf : Instr → Option (Request × Nat)
  | .nop n => some (.nop, n)
  | .claim op n => some (.claim op, n)
  | .retire i n => some (.retire i, n)
  | .read i n => some (.read i, n)
  | .lookup l side t n => some (.lookup l side t, n)
  | .set i k v n => some (.set i k v, n)
  | .publish i n => some (.publish i, n)
  | .hold i n => some (.hold i, n)
  | .release i n => some (.release i, n)
  | .ask i n => some (.ask i, n)
  | .take n => some (.take, n)
  | .events n => some (.events, n)
  | .ackEvents m0 m1 m2 n => some (.ackEvents m0 m1 m2, n)
  | .line l n => some (.line l, n)
  | .attach l n => some (.attach l, n)
  | .detach l n => some (.detach l, n)
  | .settingWrite item v n => some (.settingWrite item v, n)
  | .settingRead item n => some (.settingRead item, n)
  | .apply n => some (.apply, n)
  | .clear n => some (.clear, n)
  | _ => none

/-- R174: the port takes transactions. -/
abbrev PortOpen (s : State) : Prop := s.port.inReset = false ∧ s.port.awaitRise = false

/-- R172, case 4: a transaction of the request and `filler` bytes has the required length. -/
abbrev LengthRight (s : State) (r : Request) (filler : Nat) : Prop :=
  r.length + filler = max r.length (s.port.held.result.length + 1)

/-- R172: the request is taken. -/
abbrev Taken (s : State) (r : Request) (filler : Nat) : Prop := PortOpen s ∧ LengthRight s r filler

/-- R171: the state x of every block, with a response held and the old one shifted out over `edges` edges (the record of the
bits MISO carried is the model's, log 6). -/
def responded (s x : State) (edges : Nat) (status : Status) (result : List Byte) : State :=
  { x with port := { s.port with held := { status := status, result := result }, miso := s.port.held.shiftOut edges } }

/-- The answer to a request: every block as x has it, the result bytes as listed. -/
def answered (s x : State) (r : Request) (filler : Nat) (status : Status) (result : List Byte) : State :=
  responded s x (8 * (r.length + filler)) status result

/-- R173: an answer that changes no block; its result bytes are 0. -/
def unchanged (s : State) (r : Request) (filler : Nat) (status : Status) : State :=
  answered s s r filler status (List.replicate (r.responseLength - 1) 0)

/-- The index that an index operand names (R179). -/
abbrev Names (b : Byte) (i : Index) : Prop := b.toNat = i.val

/-- The line that a line operand names (R179). -/
abbrev NamesLine (b : Byte) (l : LineId) : Prop := b.toNat = lineNumber l

/-- A directory with one entry put in place. -/
abbrev withEntryAt (s : State) (i : Index) (e : Entry) : State := { s with entries := s.entries.set i (some e) }

/-- R18, R160: an entry emptied. -/
abbrev withoutEntry (s : State) (i : Index) : State :=
  { s with entries := s.entries.set i none, queue := s.queue.filter fun j => j != i }

/-! ### CLAIM -/

/-- R9: the operands for which CLAIM answers BAD_ARG. -/
abbrev ClaimBad (op : ClaimOperands) : Prop :=
  (op.selector.toNat < 128 ∧ 63 < op.selector.toNat) ∨ 131 < op.selector.toNat ∨
  (op.kind ≠ 1 ∧ op.kind ≠ 2 ∧ op.kind ≠ 3) ∨
  op.tag.setWidth 12 = (0 : Tag) ∨
  (op.kind = 3 ∧ op.outTag.setWidth 12 = (0 : Tag)) ∨
  (op.kind ≠ 2 ∧ (op.confirm.toNat < 1 ∨ 4 < op.confirm.toNat)) ∨
  (op.kind = 2 ∧ 2 < op.mode.toNat) ∨
  (op.kind = 2 ∧ op.mode = 1 ∧
    ((op.period ≠ 1 ∧ op.period ≠ 2 ∧ op.period ≠ 4 ∧ op.period ≠ 8 ∧ op.period ≠ 16) ∨
      op.period.toNat ≤ op.phase.toNat))

/-- R10: the index CLAIM chooses. -/
abbrev ClaimChooses (s : State) (op : ClaimOperands) (i : Index) : Prop :=
  s.entry i = none ∧
  (op.selector.toNat < 128 → op.selector.toNat = i.val) ∧
  (128 ≤ op.selector.toNat → i.val / 16 = op.selector.toNat - 128 ∧
    ∀ j : Index, j.val / 16 = op.selector.toNat - 128 → s.entry j = none → i ≤ j)

/-- R12: the entry CLAIM creates at an index. -/
def newEntry (s : State) (i : Index) (op : ClaimOperands) : Entry :=
  let receiving := op.kind ≠ 2
  let scheduled := op.kind = 2 ∧ op.mode = 1
  { state := if receiving ∧ s.usable (s.home i) = false then .frozen else .live
    kind := if op.kind = 1 then .input else if op.kind = 2 then .output else .bridge
    tag := op.tag.setWidth 12
    mask := if receiving then op.mask.setWidth 12 else 0
    outTag := if op.kind = 3 then op.outTag.setWidth 12 else 0
    value := none, staged := none, candidate := none
    confirm := if receiving then op.confirm.toNat else 0
    refresh := if receiving then op.refresh.toNat else 0
    age := 0
    mode := if scheduled then .periodic else if op.kind = 2 ∧ op.mode = 2 then .onQuery else .onChange
    period := if scheduled then op.period.toNat else 0
    phase := if scheduled then op.phase.toNat else 0
    stamp := none
    notify := op.options.getLsbD 0
    oneShot := decide (op.kind = 2) && op.options.getLsbD 1
    answersRecall := decide (op.kind ≠ 1) && op.options.getLsbD 2
    held := false, publishPending := false, askPending := false
    inFlight := { a := false, b := false }
    causes := .nothing }

/-- R11, R26: a side of an entry equals, on one line, a side of an occupied entry. -/
abbrev Duplicated (s : State) (i : Index) (e : Entry) : Prop :=
  ∃ j x, s.entry j = some x ∧
    ((e.kind ≠ .output ∧ x.kind ≠ .output ∧ s.home i = s.home j ∧ e.tag = x.tag ∧ e.mask = x.mask) ∨
      (e.kind ≠ .input ∧ publishingSide s.applied.bankMap i e = publishingSide s.applied.bankMap j x))

/-! ### What an event leaves alone -/

/-- The settings unit's state is the same. -/
abbrev SameSettings (s t : State) : Prop := t.staged = s.staged ∧ t.applied = s.applied ∧ t.applySet = s.applySet

/-- The host port and the model's own queues are the same. -/
abbrev SameOutside (s t : State) : Prop := t.port = s.port ∧ t.samples = s.samples ∧ t.pending = s.pending

/-- Controller, engine and cycle unit of a line are the same. -/
abbrev SameLine (s t : State) (l : LineId) : Prop :=
  t.line.get l = s.line.get l ∧ t.engine.get l = s.engine.get l ∧ t.cycle.get l = s.cycle.get l

/-- Directory and change queue are the same. -/
abbrev SameDirectory (s t : State) : Prop := t.entries = s.entries ∧ t.queue = s.queue

/-- R165: the pins of t are those of s judged under the demand in t. -/
abbrev PinsJudged (s t : State) : Prop := ∀ p, t.pins.get p = (s.pins.get p).judge (t.demand p)

/-- R158: the queue gains, in ascending order, the listed indices that it does not hold. -/
abbrev Appends (s t : State) (new : Index → Bool) : Prop :=
  t.queue = s.queue ++ (List.finRange 64).filter fun i => new i && !s.queue.contains i

/-- R158, R160: the queue loses the indices that `gone` lists, and then gains, in ascending order, those that `new` lists
and it does not hold. -/
abbrev QueueMoves (s t : State) (gone new : Index → Bool) : Prop :=
  t.queue = (s.queue.filter fun i => !gone i) ++ (List.finRange 64).filter fun i => new i && !s.queue.contains i

/-- The latched flags of t are those of s but for raises of the listed ones (R162). -/
abbrev Raises (s t : State) (raised : EventFlag → Bool) : Prop :=
  ∀ f, f ≠ .queueReady → t.flag f = (s.flag f || raised f)

/-! ### Counts -/

/-- R125: the line state of a line that takes part, by its counts. -/
def stateFor (transmit receive : Nat) : LineState := if 100 ≤ transmit ∨ 100 ≤ receive then .guarded else .active

/-- R127: a change of the counts takes the larger of the two across a level. -/
def crosses (level transmit receive newTransmit newReceive : Nat) : Bool :=
  decide (max transmit receive < level) != decide (max newTransmit newReceive < level)

/-- R125, R127: the flags a change of the counts of a line that takes part raises. -/
def countFlags (s : State) (l : LineId) (transmit receive : Nat) (f : EventFlag) : Bool :=
  (f == .ofLine l .lineState && (s.line.get l).state != stateFor transmit receive) ||
  (f == .ofLine l .caution &&
    crosses (s.applied.line.get l).caution (s.line.get l).transmitCount (s.line.get l).receiveCount transmit receive)

/-- R124, R125: the controller after a change of the counts of a line that takes part. -/
def counted (c : LineCtl) (transmit receive : Nat) : LineCtl :=
  { c with transmitCount := transmit, receiveCount := receive, state := stateFor transmit receive }

/-- The line and the frame of a command that is a frame received (R21, R96, R109). -/
def frameOf : Instr → Option (LineId × WireFrame)
  | .dataFrame l tag payload => some (l, { tag := tag, kind := 2, payload := payload })
  | .queryFrame l tag => some (l, { tag := tag, kind := 1, payload := [] })
  | .recallFrame l => some (l, { tag := 0, kind := 1, payload := [] })
  | .beaconFrame l address cycle => some (l, { tag := 0, kind := 0, payload := [address, cycle] })
  | .discardedFrame l w => some (l, w)
  | _ => none

/-! ### Transmit selection -/

/-- R134: the entry offers its publish to a line, with this value. -/
abbrev OffersPublish (s : State) (l : LineId) (i : Index) (e : Entry) (v : Value) : Prop :=
  e.publishPending = true ∧ e.held = false ∧ e.value = some v ∧ e.inFlight.get l = false ∧
  ((e.kind = .output ∧ s.home i = l ∧ e.state = .live) ∨
    (e.kind = .bridge ∧ (s.home i).other = l ∧ (e.state = .live ∨ e.state = .stale ∨ e.state = .frozen)))

/-- R134: the entry offers its ask to a line. -/
abbrev OffersAsk (s : State) (l : LineId) (i : Index) (e : Entry) : Prop :=
  e.askPending = true ∧ e.inFlight.get l = false ∧ e.kind ≠ .output ∧ s.home i = l ∧
  (e.state = .live ∨ e.state = .stale ∨ e.state = .frozen)

/-- R134: the position offers nothing to a line. -/
abbrev OffersNothing (s : State) (l : LineId) (i : Index) : Prop :=
  ∀ e, s.entry i = some e → (∀ v, ¬ OffersPublish s l i e v) ∧ ¬ OffersAsk s l i e

/-- R135: the tag under which an entry publishes. -/
def publishTag (e : Entry) : Tag := if e.kind = .bridge then e.outTag else e.tag

/-- R97, R150: the due beacon of a line, with the number it carries. -/
def ownBeacon (s : State) (l : LineId) : Attempt :=
  { owner := .beacon
    frame := .beacon (s.applied.line.get l).nodeAddress
      (if (s.cycle.get l).fresh = true then 0 else (s.cycle.get l).cycle + 1) }

/-- R135, R6: the state with a frame copied for an entry. -/
def withCopy (s : State) (l : LineId) (i : Index) (e : Entry) (a : Attempt) : State :=
  { s with line := s.line.set l { s.line.get l with attempt := some a }
           entries := s.entries.set i (some { e with inFlight := e.inFlight.set l true }) }

/-! ### Boundaries -/

/-- R145: the sync state and the hold-off count after a boundary. -/
def syncAfter (u : CycleUnit) : SyncState × Nat :=
  match u.sync with
  | .unsynced => (.regaining, 3)
  | .regaining => if u.holdOff - 1 = 0 then (.synced, 0) else (.regaining, u.holdOff - 1)
  | x => (x, u.holdOff)

/-- R145: the cycle unit after a boundary that carries a number. -/
def unitAfter (s : State) (l : LineId) (u : CycleUnit) (number : BitVec 4) : CycleUnit :=
  { u with cycle := number, watchTimer := .running (2 * (s.applied.line.get l).cyclePeriod * 16000)
           sync := (syncAfter u).1, holdOff := (syncAfter u).2 }

/-- R38, R39: a LIVE or STALE receiving entry after a boundary. -/
def agedEntry (e : Entry) : Entry :=
  let age := min (e.age + 1) 255
  if e.state = .live ∧ e.refresh ≠ 0 ∧ age = e.refresh then
    { e with age := age, state := .stale, causes := { e.causes with stale := true } }
  else { e with age := age }

/-- R45: a FROZEN receiving entry after a gain of usability. -/
def thawedEntry (e : Entry) : Entry :=
  { e with state := .live, age := 0, candidate := none, causes := { e.causes with thawed := true } }

/-- R44: a LIVE or STALE receiving entry after a loss of usability. -/
def frozenEntry (e : Entry) : Entry :=
  { e with state := .frozen, candidate := none, causes := { e.causes with froze := true } }

/-! ### Attempts that end without a success, and lost or gained usability -/

/-- R6, R132: the frame in flight on a line is this entry's. -/
abbrev HasFlight (s : State) (l : LineId) (i : Index) (e : Entry) : Prop :=
  ownerEntry (s.line.get l).attempt = some i ∧ e.inFlight.get l = true

/-- R16, R52, R76, R82: the entry at a position once the frame in flight on a line has ended in anything but a success:
the owner keeps every pending flag, and one that is RETIRING and has no other frame in flight is emptied. -/
def afterAttempt (s : State) (l : LineId) (i : Index) (e : Entry) : Option Entry :=
  if HasFlight s l i e then
    if e.state = .retiring ∧ e.inFlight.get l.other = false then none
    else some { e with inFlight := e.inFlight.set l false }
  else some e

/-- R16, R160: the position is emptied by the end of that attempt. -/
def emptiedBy (s : State) (l : LineId) (i : Index) : Bool :=
  match s.entry i with
  | some e => (afterAttempt s l i e).isNone
  | none => false

/-- R43, R44: the entry freezes when the line stops being usable. -/
abbrev LosesUse (s : State) (l : LineId) (i : Index) (e : Entry) : Prop :=
  s.usable l = true ∧ s.home i = l ∧ e.kind ≠ .output ∧ (e.state = .live ∨ e.state = .stale)

/-- R44: the entry once the line has stopped being usable. -/
def afterLoss (s : State) (l : LineId) (i : Index) (e : Entry) : Entry := if LosesUse s l i e then frozenEntry e else e

/-- R44, R158: the positions whose FROZE is handed to the queue. -/
def frozenAt (s : State) (l : LineId) (i : Index) : Bool :=
  match s.entry i with
  | some e => e.notify && decide (LosesUse s l i e)
  | none => false

/-- R45, R158: a gain of usability of a line thaws its FROZEN receiving sides, leaves every other position, and queues
the thawed ones. -/
abbrev LineThaws (s t : State) (l : LineId) : Prop :=
  (∀ i e, s.entry i = some e →
    t.entry i = some (if s.home i = l ∧ e.kind ≠ .output ∧ e.state = .frozen then thawedEntry e else e)) ∧
  (∀ i, s.entry i = none → t.entry i = none) ∧
  Appends s t (fun i => match s.entry i with
    | some e => e.notify && decide (s.home i = l ∧ e.kind ≠ .output ∧ e.state = .frozen)
    | none => false)

/-- R65: the boundary's number is in the entry's schedule. -/
abbrev InSchedule (e : Entry) (number : BitVec 4) : Prop := e.mode = .periodic ∧ number.toNat % e.period = e.phase

/-- R60, R61, R65: a LIVE OUTPUT entry after a boundary of a BEACONED line. -/
def sampledEntry (e : Entry) (number : BitVec 4) : Entry :=
  match e.staged with
  | some v =>
    if e.held = true then
      { e with publishPending := e.publishPending || (decide (InSchedule e number) && e.value.isSome) }
    else
      { e with value := some v, staged := none
               publishPending := e.publishPending || (decide (e.mode = .onChange) && decide (e.value ≠ some v)) ||
                 decide (InSchedule e number) }
  | none => { e with publishPending := e.publishPending || (decide (InSchedule e number) && e.value.isSome) }

/-- R38, R39, R45, R46, R61, R65: the entry at a position after a boundary of a line; `gained` says that the boundary
also made the line usable. -/
def afterBoundary (s : State) (l : LineId) (number : BitVec 4) (gained : Bool) (i : Index) (e : Entry) : Entry :=
  if s.home i ≠ l then e
  else if e.kind = .output then if e.state = .live then sampledEntry e number else e
  else if e.state = .live ∨ e.state = .stale then agedEntry e
  else if e.state = .frozen ∧ gained = true then thawedEntry e
  else e

/-- R145: the boundary ended the hold-off of a BEACONED line. -/
def gainsSync (s t : State) (l : LineId) : Bool :=
  decide (s.mode l = .beaconed ∧ (s.cycle.get l).sync = .regaining ∧ (t.cycle.get l).sync = .synced)

/-- R145, R158: a boundary of a line at the directory: every position, and the queue, which gains the indices that went
STALE or were THAWED. -/
abbrev BoundaryTaken (s t : State) (l : LineId) (number : BitVec 4) : Prop :=
  (∀ i e, s.entry i = some e → t.entry i = some (afterBoundary s l number (gainsSync s t l) i e)) ∧
  (∀ i, s.entry i = none → t.entry i = none) ∧
  Appends s t (fun i => match s.entry i with
    | some e => e.notify && decide ((afterBoundary s l number (gainsSync s t l) i e).state ≠ e.state)
    | none => false)

/-! ### Line bits -/

/-- With no command waiting and no selection due, a step takes the line bit x: the engine of its line moves to a phase, its
reports wait to be run, and nothing else changes (logs 2 and 10). -/
abbrev TakesBit (s : State) (x : LineBit) (phase : Phase) (reports : List Instr) : Prop :=
  ∀ rest, s.pending = [] → s.selection .a = none → s.selection .b = none → s.samples = x :: rest →
    step s = .next { s with samples := rest, engine := s.engine.set x.line phase, pending := reports }

/-! ### Settings -/

/-- R184: the value lies in the range of the item that a code names; false for a code that names none (R182). -/
def itemAccepts (code : Byte) (value : BitVec 16) : Bool :=
  let v := value.toNat
  let n := code.toNat
  if n = 0x01 ∨ n = 0x02 then v == 20 || v == 50 || v == 125 || v == 250
  else if n = 0x03 ∨ n = 0x04 then decide (1 ≤ v ∧ v ≤ 63)
  else if 0x05 ≤ n ∧ n ≤ 0x08 then decide (v ≤ 1)
  else if n = 0x09 ∨ n = 0x0A then decide (2 ≤ v ∧ v ≤ 250)
  else if n = 0x0B ∨ n = 0x0C then decide (v ≤ 1)
  else if n = 0x0D ∨ n = 0x0E then decide (1 ≤ v ∧ v ≤ 99)
  else if n = 0x0F then true
  else if 0x10 ≤ n ∧ n ≤ 0x20 then decide (v ≤ 2)
  else false

/-- "Setting items": the value a copy holds once `value` is written; BANK_MAP keeps four bits (log 17). -/
def writtenValue (code : Byte) (value : BitVec 16) : Nat := if code = 0x0F then value.toNat % 16 else value.toNat

/-- A two-byte field as it travels (R179). -/
def twoBytes (n : Nat) : List Byte := [BitVec.ofNat 8 (n / 256), BitVec.ofNat 8 n]

/-- A line's portion of the staged settings would wait (R186). -/
def lineWouldWait (s : State) (l : LineId) : Bool :=
  !s.isDetached l && decide (s.staged.line.get l ≠ s.applied.line.get l)

/-- R188: both lines are DETACHED. -/
def bothDetached (s : State) : Bool := s.isDetached .a && s.isDetached .b

/-- R188: a bank-map portion that moves a bank would wait. -/
def banksWouldWait (s : State) : Bool :=
  decide (s.staged.bankMap ≠ s.applied.bankMap) && !bothDetached s

/-- R27, R188: a bank-map portion that moves a bank would be refused. -/
def banksRefused (s : State) : Bool :=
  decide (s.staged.bankMap ≠ s.applied.bankMap) && bothDetached s && !guardHolds s.staged.bankMap s.entries

/-- R60, R62: an OUTPUT entry after its staged value v is sampled on a FREE line. -/
def sampledOnFree (e : Entry) (v : Value) : Entry :=
  { e with value := some v, staged := none
           publishPending := e.publishPending || (decide (e.mode ≠ .onQuery) && decide (e.value ≠ some v)) }

/-- R27, R188: APPLY moves banks. -/
def banksMove (s : State) : Bool :=
  decide (s.staged.bankMap ≠ s.applied.bankMap) && bothDetached s && guardHolds s.staged.bankMap s.entries

/-- R62, R91, R187, R191: APPLY samples the OUTPUT entries at this index: its home line turns FREE, or its bank moves
onto a line that is then FREE (line portions before the map: log 28). -/
def sampledByApply (s : State) (i : Index) : Bool :=
  (s.isDetached (s.home i) && decide (s.mode (s.home i) = .beaconed) &&
    decide ((s.staged.line.get (s.home i)).cycleMode = .free)) ||
  (banksMove s && decide (s.staged.bankMap.home i ≠ s.home i) &&
    decide ((s.staged.line.get (s.staged.bankMap.home i)).cycleMode = .free))

end Sys2Proof.Safety
end

