-- ==== Sys2Proof/Certificates/Slice0/Obligations.lean ====
section
/-! DEFINITION. Obligations: the statements for the provers, from the spec's numbered rules. -/

open Sys2Proof Sys2Proof.Machine Sys2Proof.Safety

/-! ### The machine and its resets -/

/-- A step runs the command at the front of the queue on the state with the queue's rest (the queue of waiting commands is
the model's, log 1). -/
def Obligations.StepRunsFront : Prop :=
  ∀ (c : Instr) (s : State), step { s with pending := c :: s.pending } = exec c s

/-- With no command waiting, a selection that is due on a line comes next, Line A's first; with none due the next line bit
is taken, and with no line bit to come the part idles (the model's choice, logs 2, 10 and 15). What one line bit does in
each phase: R94, R101 to R104, R110, R112, R113 (a receiver without a record reads nothing, log 11). -/
def Obligations.EmptyQueueGoesOn : Prop :=
  (∀ s : State, s.pending = [] → s.selection .a ≠ none →
    step s = .next { s with pending := [.transmitSelection .a] }) ∧
  (∀ s : State, s.pending = [] → s.selection .a = none → s.selection .b ≠ none →
    step s = .next { s with pending := [.transmitSelection .b] }) ∧
  (∀ s : State, s.pending = [] → s.selection .a = none → s.selection .b = none → s.samples = [] → step s = .next s) ∧
  (∀ (s : State) (x : LineBit),
    (s.engine.get x.line = .stopped → TakesBit s x .stopped []) ∧
    (∀ k, s.engine.get x.line = .recovering k →
      TakesBit s x (.recovering (if x.level = true ∧ k + 1 ≠ 12 then k + 1 else 0))
        (if x.level = true ∧ k + 1 = 12 then [.idleSequence x.line] else [])) ∧
    (∀ k, s.engine.get x.line = .idle k → (s.line.get x.line).attempt = none →
      (x.level = false → TakesBit s x (.receiving (some [])) []) ∧
      (x.level = true → TakesBit s x (.idle (if k + 1 = 12 then 0 else k + 1))
        (if k + 1 = 12 then [.idleSequence x.line] else []))) ∧
    (∀ k, s.engine.get x.line = .idle k → (s.line.get x.line).attempt ≠ none →
      (x.dominantAtStart = true → TakesBit s x (.idle k) [.startCollision x.line]) ∧
      (x.dominantAtStart = false → x.level = false → TakesBit s x (.sending []) []) ∧
      (x.dominantAtStart = false → x.level = true → TakesBit s x (.idle k) [.transmitError x.line .bit])) ∧
    (∀ k, s.engine.get x.line = .intermission k →
      (x.level = false → TakesBit s x (.receiving (some [])) []) ∧
      (x.level = true → k + 1 ≠ 4 → TakesBit s x (.intermission (k + 1)) []) ∧
      (x.level = true → k + 1 = 4 → TakesBit s x (.idle 0) [.idleSequence x.line])) ∧
    (∀ active wait sent, s.engine.get x.line = .flagging active wait sent →
      TakesBit s x (if wait ≠ 0 then .flagging active (wait - 1) sent
        else if sent + 1 = 8 then .recovering 0 else .flagging active 0 (sent + 1)) []) ∧
    (∀ bits a, s.engine.get x.line = .sending bits → (s.line.get x.line).attempt = some a →
      (senderVerdict a.frame.wire (bits ++ [x.level]) = .more → TakesBit s x (.sending (bits ++ [x.level])) []) ∧
      (∀ kind, senderVerdict a.frame.wire (bits ++ [x.level]) = .error kind →
        TakesBit s x (.sending (bits ++ [x.level])) [.transmitError x.line kind]) ∧
      (senderVerdict a.frame.wire (bits ++ [x.level]) = .complete →
        TakesBit s x (.sending (bits ++ [x.level])) [.transmitSuccess x.line]) ∧
      (senderVerdict a.frame.wire (bits ++ [x.level]) = .lost → receiverVerdict (bits ++ [x.level]) = .more →
        TakesBit s x (.sending (bits ++ [x.level])) [.arbitrationLoss x.line]) ∧
      (∀ kind, senderVerdict a.frame.wire (bits ++ [x.level]) = .lost →
        receiverVerdict (bits ++ [x.level]) = .error kind →
        TakesBit s x (.sending (bits ++ [x.level])) [.arbitrationLoss x.line, .receiveError x.line kind])) ∧
    (s.engine.get x.line = .receiving none → TakesBit s x (.receiving none) []) ∧
    (∀ bits, s.engine.get x.line = .receiving (some bits) →
      (receiverVerdict (bits ++ [x.level]) = .more → TakesBit s x (.receiving (some (bits ++ [x.level]))) []) ∧
      (∀ kind, receiverVerdict (bits ++ [x.level]) = .error kind →
        TakesBit s x (.receiving (some (bits ++ [x.level]))) [.receiveError x.line kind]) ∧
      (receiverVerdict (bits ++ [x.level]) = .complete → (readFrame (bits ++ [x.level])).legal = true →
        ∃ c, frameOf c = some (x.line, readFrame (bits ++ [x.level])) ∧
          TakesBit s x (.receiving (some (bits ++ [x.level]))) [c])))

/-- The reset state holds the spec's values; power-on and both edges of nRST put every block there (R20, R116,
R138, R168, R171, R174, R183). The commands and line bits still to come stay (the model's choice, log 18), and power-on
leaves the port open whatever it was (the model's choice, log 29). -/
def Obligations.ResetsGiveDefaults : Prop :=
  AtDefaults State.reset ∧
  (∀ s : State, ∃ t, exec .powerOn s = .next t ∧ AtDefaults t ∧ t.port.held = { status := .ok, result := [] } ∧
    t.port.inReset = false ∧ t.port.awaitRise = false ∧ t.samples = s.samples ∧ t.pending = s.pending) ∧
  (∀ s : State, ∃ t, exec .nrstAssert s = .next t ∧ AtDefaults t ∧ t.port.inReset = true ∧
    t.samples = s.samples ∧ t.pending = s.pending) ∧
  (∀ (ncsLow : Bool) (s : State), ∃ t, exec (.nrstRelease ncsLow) s = .next t ∧ AtDefaults t ∧
    t.port.held = { status := .ok, result := [] } ∧ t.port.inReset = false ∧ t.port.awaitRise = ncsLow ∧
    t.samples = s.samples ∧ t.pending = s.pending)

/-! ### The host port -/

/-- R174: while nRST is low no transaction is taken; a transaction that began before the release is waited out
(that any transaction then is that one is the model's reading, log 5, and that no MISO bits are recorded for it is its
choice, log 30). -/
def Obligations.ResetShutsPort : Prop :=
  (∀ c r n s, requestOf c = some (r, n) → s.port.inReset = true → exec c s = .next s) ∧
  (∀ bytes edges s, s.port.inReset = true → exec (.transactionRejected bytes edges) s = .next s) ∧
  (∀ s, s.port.inReset = true →
    exec .emptyTransaction s = .next s ∧ exec .transactionAcrossReset s = .next s) ∧
  (∀ c r n s, requestOf c = some (r, n) → s.port.inReset = false → s.port.awaitRise = true →
    exec c s = .next { s with port := { s.port with awaitRise := false } }) ∧
  (∀ bytes edges s, s.port.inReset = false → s.port.awaitRise = true →
    exec (.transactionRejected bytes edges) s = .next { s with port := { s.port with awaitRise := false } }) ∧
  (∀ s, s.port.inReset = false → s.port.awaitRise = true →
    exec .transactionAcrossReset s = .next { s with port := { s.port with awaitRise := false } } ∧
    exec .emptyTransaction s = .next { s with port := { s.port with awaitRise := false } })

/-- R170: a transaction without a rising edge is ignored. R172, cases 1 to 3: what is not taken reaches no block; only the
held response changes. -/
def Obligations.UntakenTransactionsChangeNothing : Prop :=
  (∀ s : State, PortOpen s → exec .emptyTransaction s = .next s) ∧
  (∀ c r n s, requestOf c = some (r, n) → PortOpen s → ¬ LengthRight s r n →
    exec c s = .next (responded s s (8 * (r.length + n)) .framing [])) ∧
  (∀ bytes (edges : Fin 8) s, PortOpen s → edges ≠ 0 →
    exec (.transactionRejected bytes edges) s =
      .next (responded s s (8 * bytes.length + edges.val) .framing [])) ∧
  (∀ code rest s, PortOpen s → requestLength code = none →
    exec (.transactionRejected (code :: rest) 0) s =
      .next (responded s s (8 * (rest.length + 1)) .badRequest [])) ∧
  (∀ code rest n s, PortOpen s → requestLength code = some n →
    rest.length + 1 ≠ max n (s.port.held.result.length + 1) →
    exec (.transactionRejected (code :: rest) 0) s =
      .next (responded s s (8 * (rest.length + 1)) .framing []))

/-- R172: the bytes of a request with any filler bytes after them are that request, at every host command (the model takes
raw bytes it judges good as their request, log 7). -/
def Obligations.BytesAreTheirRequest : Prop :=
  ∀ c r (filler : List Byte) s, requestOf c = some (r, filler.length) →
    exec (.transactionRejected (encodeRequest r ++ filler) 0) s = exec c s

/-- R179: the decoder of a transaction's bytes gives back every request with every operand, whatever filler follows. -/
def Obligations.RequestBytesDecode : Prop :=
  ∀ (r : Request) (filler : List Byte),
    decodeRequest (encodeRequest r ++ filler) = some r ∧ requestLength r.code = some r.length

/-- R175: NOP changes no state but the held response, answers OK and re-pulses no pin. -/
def Obligations.NopAnswersOk : Prop :=
  ∀ (n : Nat) (s : State), Taken s .nop n → exec (.nop n) s = .next (answered s s .nop n .ok [])

/-! ### The directory's requests -/

/-- R9 to R11: CLAIM's checks in their order; a refused CLAIM changes no block. -/
def Obligations.ClaimRefusals : Prop :=
  ∀ (op : ClaimOperands) (n : Nat) (s : State), Taken s (.claim op) n →
    (ClaimBad op → exec (.claim op n) s = .next (unchanged s (.claim op) n .badArg)) ∧
    (¬ ClaimBad op →
      (∀ (i : Index) e, op.selector.toNat = i.val → s.entry i = some e →
        exec (.claim op n) s = .next (unchanged s (.claim op) n (if e.state = .retiring then .busy else .occupied))) ∧
      (128 ≤ op.selector.toNat → (∀ i : Index, i.val / 16 = op.selector.toNat - 128 → s.entry i ≠ none) →
        exec (.claim op n) s = .next (unchanged s (.claim op) n .noSlot)) ∧
      (∀ i : Index, ClaimChooses s op i → Duplicated s i (newEntry s i op) →
        exec (.claim op n) s = .next (unchanged s (.claim op) n .duplicate)))

/-- R12: a CLAIM that passes its checks creates the entry at the chosen index, with no cause, and answers OK with the index.
That the fields its kind does not carry stand at 0, absent, no or ON_CHANGE is the model's choice (log 16). -/
def Obligations.ClaimCreates : Prop :=
  ∀ (op : ClaimOperands) (n : Nat) (s : State) (i : Index), Taken s (.claim op) n → ¬ ClaimBad op →
    ClaimChooses s op i → ¬ Duplicated s i (newEntry s i op) →
    exec (.claim op n) s =
      .next (answered s (withEntryAt s i (newEntry s i op)) (.claim op) n .ok [BitVec.ofNat 8 i.val])

/-- R14, R15, R18: RETIRE. -/
def Obligations.RetireEmptiesOrWaits : Prop :=
  ∀ (b : Byte) (n : Nat) (s : State), Taken s (.retire b) n →
    (64 ≤ b.toNat → exec (.retire b n) s = .next (unchanged s (.retire b) n .badArg)) ∧
    (∀ i : Index, Names b i → s.entry i = none → exec (.retire b n) s = .next (unchanged s (.retire b) n .badState)) ∧
    (∀ (i : Index) e, Names b i → s.entry i = some e →
      (e.state = .retiring → exec (.retire b n) s = .next (unchanged s (.retire b) n .pending)) ∧
      (e.state ≠ .retiring → e.inFlight = { a := false, b := false } →
        exec (.retire b n) s = .next (answered s (withoutEntry s i).judgePins (.retire b) n .ok [])) ∧
      (e.state ≠ .retiring → e.inFlight ≠ { a := false, b := false } →
        exec (.retire b n) s =
          .next (answered s (withEntryAt s i { e with state := .retiring }) (.retire b) n .pending [])))

/-- R28: READ answers OK with the entry view, whatever the entry's state, and changes no block. -/
def Obligations.ReadShowsEntry : Prop :=
  ∀ (b : Byte) (n : Nat) (s : State), Taken s (.read b) n →
    (64 ≤ b.toNat → exec (.read b n) s = .next (unchanged s (.read b) n .badArg)) ∧
    (∀ i : Index, Names b i → exec (.read b n) s = .next (answered s s (.read b) n .ok (s.entryView i)))

/-- "Entry view", "Causes", R180: the bytes of the view, field by field; fields the kind does not carry read 0. -/
def Obligations.EntryViewBytes : Prop :=
  (∀ (s : State) (i : Index), (s.entryView i).length = 45 ∧ (s.entryView i)[0]? = some (BitVec.ofNat 8 i.val)) ∧
  (∀ (s : State) (i : Index), s.entry i = none →
    (s.entryView i)[1]? = some (BitVec.ofNat 8 (32 * lineNumber (s.home i) + 16 * (s.queue.contains i).toNat)) ∧
    (s.entryView i).drop 2 = List.replicate 43 0) ∧
  (∀ (s : State) (i : Index) e, s.entry i = some e →
    (s.entryView i)[1]? = some (BitVec.ofNat 8 (64 * kindNumber e.kind + 32 * lineNumber (s.home i) +
      16 * (s.queue.contains i).toNat + entryStateNumber e.state)) ∧
    ((s.entryView i).drop 2).take 2 = twoBytes e.tag.toNat ∧
    ((s.entryView i).drop 4).take 2 = twoBytes (if e.kind = .output then 0 else e.mask.toNat) ∧
    ((s.entryView i).drop 6).take 2 = twoBytes (if e.kind = .bridge then e.outTag.toNat else 0) ∧
    ((s.entryView i).drop 8).take 3 =
      (if e.kind = .output then [0, 0, 0] else [BitVec.ofNat 8 e.confirm, BitVec.ofNat 8 e.refresh, BitVec.ofNat 8 e.age]) ∧
    ((s.entryView i).drop 11).take 3 =
      (if e.kind = .output then
        if e.mode = .periodic then [1, BitVec.ofNat 8 e.period, BitVec.ofNat 8 e.phase]
        else [BitVec.ofNat 8 (modeNumber e.mode), 0, 0]
      else [0, 0, 0]) ∧
    (s.entryView i)[14]? = some (match e.stamp with
      | none => 0
      | some k => BitVec.ofNat 8 (128 + k.toNat)) ∧
    ((s.entryView i).drop 16).take 2 = causeBytes e.causes ∧
    (∀ v, e.value = some v → v.length ≤ 8 →
      (s.entryView i)[18]? = some (BitVec.ofNat 8 (128 + v.length)) ∧
      ((s.entryView i).drop 19).take 8 = v ++ List.replicate (8 - v.length) 0) ∧
    (e.value = none → ((s.entryView i).drop 18).take 9 = List.replicate 9 0) ∧
    (∀ v, e.staged = some v → v.length ≤ 8 → e.kind = .output →
      (s.entryView i)[27]? = some (BitVec.ofNat 8 (128 + v.length)) ∧
      ((s.entryView i).drop 28).take 8 = v ++ List.replicate (8 - v.length) 0) ∧
    (e.staged = none ∨ e.kind ≠ .output → ((s.entryView i).drop 27).take 9 = List.replicate 9 0) ∧
    (∀ c, e.candidate = some c → c.value.length ≤ 8 → c.run ≤ 3 → e.kind ≠ .output →
      (s.entryView i)[36]? = some (BitVec.ofNat 8 (128 + 16 * c.run + c.value.length)) ∧
      (s.entryView i).drop 37 = c.value ++ List.replicate (8 - c.value.length) 0) ∧
    (e.candidate = none ∨ e.kind = .output → (s.entryView i).drop 36 = List.replicate 9 0)) ∧
  (∀ (s : State) (i : Index) e, s.entry i = some e → ∃ b : Byte, (s.entryView i)[15]? = some b ∧
    b.getLsbD 7 = e.notify ∧
    b.getLsbD 6 = (decide (e.kind = .output) && e.oneShot) ∧
    b.getLsbD 5 = (decide (e.kind ≠ .input) && e.answersRecall) ∧
    b.getLsbD 4 = (decide (e.kind ≠ .input) && e.held) ∧
    b.getLsbD 3 = (decide (e.kind ≠ .input) && e.publishPending) ∧
    b.getLsbD 2 = (decide (e.kind ≠ .output) && e.askPending) ∧
    b.getLsbD 1 = e.inFlight.b ∧ b.getLsbD 0 = e.inFlight.a) ∧
  (∀ c : CauseSet, ∃ high low : Byte, causeBytes c = [high, low] ∧
    low.getLsbD 0 = c.committed ∧ low.getLsbD 1 = c.superseded ∧ low.getLsbD 2 = c.stale ∧
    low.getLsbD 3 = c.freshened ∧ low.getLsbD 4 = c.froze ∧ low.getLsbD 5 = c.thawed ∧
    low.getLsbD 6 = c.conflict ∧ low.getLsbD 7 = c.queried ∧ high = (if c.published then 1 else 0))

/-- R22, R24, R25: LOOKUP answers with the lowest index its match admits, and changes no block. -/
def Obligations.LookupFindsLowest : Prop :=
  ∀ (lb side : Byte) (tag : BitVec 16) (n : Nat) (s : State), Taken s (.lookup lb side tag) n →
    (1 < lb.toNat ∨ 1 < side.toNat ∨ tag.setWidth 12 = (0 : Tag) →
      exec (.lookup lb side tag n) s = .next (unchanged s (.lookup lb side tag) n .badArg)) ∧
    (∀ (l : LineId) (admits : Index → Prop), NamesLine lb l → tag.setWidth 12 ≠ (0 : Tag) →
      ((side = 0 ∧ ∀ i, admits i ↔ ∃ e, s.entry i = some e ∧ e.kind ≠ .output ∧ s.home i = l ∧
          (e.state = .live ∨ e.state = .stale ∨ e.state = .frozen) ∧
          tag.setWidth 12 &&& e.mask = e.tag &&& e.mask) ∨
       (side = 1 ∧ ∀ i, admits i ↔ ∃ e, s.entry i = some e ∧ e.state ≠ .retiring ∧
          ((e.kind = .output ∧ s.home i = l ∧ e.tag = tag.setWidth 12) ∨
            (e.kind = .bridge ∧ (s.home i).other = l ∧ e.outTag = tag.setWidth 12)))) →
      (∀ i, admits i → (∀ j, admits j → i ≤ j) →
        exec (.lookup lb side tag n) s =
          .next (answered s s (.lookup lb side tag) n .ok [BitVec.ofNat 8 i.val])) ∧
      ((∀ i, ¬ admits i) →
        exec (.lookup lb side tag n) s = .next (unchanged s (.lookup lb side tag) n .notFound)))

/-- R56 to R58, R60: SET's checks in their order, the staged value, the re-arm, and the sampling on a FREE line. -/
def Obligations.SetStagesValue : Prop :=
  ∀ (b k : Byte) (v : Vector Byte 8) (n : Nat) (s : State), Taken s (.set b k v) n →
    (64 ≤ b.toNat ∨ 8 < k.toNat → exec (.set b k v n) s = .next (unchanged s (.set b k v) n .badArg)) ∧
    (∀ i : Index, Names b i → k.toNat ≤ 8 →
      (s.entry i = none → exec (.set b k v n) s = .next (unchanged s (.set b k v) n .badState)) ∧
      (∀ e, s.entry i = some e →
        (e.kind ≠ .output → exec (.set b k v n) s = .next (unchanged s (.set b k v) n .badKind)) ∧
        (e.kind = .output → e.state = .retiring →
          exec (.set b k v n) s = .next (unchanged s (.set b k v) n .badState)) ∧
        (e.kind = .output → e.state = .live ∨ e.state = .spent →
          (e.held = true ∨ s.mode (s.home i) = .beaconed →
            exec (.set b k v n) s =
              .next (answered s (withEntryAt s i { e with state := .live, staged := some (v.toList.take k.toNat) })
                (.set b k v) n .ok [])) ∧
          (e.held = false → s.mode (s.home i) = .free →
            exec (.set b k v n) s =
              .next (answered s (withEntryAt s i
                { e with state := .live, staged := none, value := some (v.toList.take k.toNat)
                         publishPending := e.publishPending ||
                           (decide (e.mode ≠ .onQuery) && decide (e.value ≠ some (v.toList.take k.toNat))) })
                (.set b k v) n .ok [])))))

/-- R70, R85: PUBLISH sets publish pending. R50: ASK sets ask pending. -/
def Obligations.PublishAndAskSetPending : Prop :=
  (∀ (b : Byte) (n : Nat) (s : State), Taken s (.publish b) n →
    (64 ≤ b.toNat → exec (.publish b n) s = .next (unchanged s (.publish b) n .badArg)) ∧
    (∀ i : Index, Names b i →
      (s.entry i = none → exec (.publish b n) s = .next (unchanged s (.publish b) n .badState)) ∧
      (∀ e, s.entry i = some e →
        (e.kind = .input → exec (.publish b n) s = .next (unchanged s (.publish b) n .badKind)) ∧
        (e.kind ≠ .input → e.state = .retiring ∨ e.state = .spent →
          exec (.publish b n) s = .next (unchanged s (.publish b) n .badState)) ∧
        (e.kind ≠ .input → e.state = .live ∨ e.state = .stale ∨ e.state = .frozen →
          exec (.publish b n) s =
            .next (answered s (withEntryAt s i { e with publishPending := true }) (.publish b) n .ok []))))) ∧
  (∀ (b : Byte) (n : Nat) (s : State), Taken s (.ask b) n →
    (64 ≤ b.toNat → exec (.ask b n) s = .next (unchanged s (.ask b) n .badArg)) ∧
    (∀ i : Index, Names b i →
      (s.entry i = none → exec (.ask b n) s = .next (unchanged s (.ask b) n .badState)) ∧
      (∀ e, s.entry i = some e →
        (e.kind = .output → exec (.ask b n) s = .next (unchanged s (.ask b) n .badKind)) ∧
        (e.kind ≠ .output → e.state = .retiring → exec (.ask b n) s = .next (unchanged s (.ask b) n .badState)) ∧
        (e.kind ≠ .output → e.state = .live ∨ e.state = .stale ∨ e.state = .frozen →
          exec (.ask b n) s = .next (answered s (withEntryAt s i { e with askPending := true }) (.ask b) n .ok [])))))

/-- R71, R72, R60, R62, R85: HOLD sets HELD, RELEASE clears it; a staged value of a LIVE OUTPUT entry on a FREE line is
sampled at the RELEASE. -/
def Obligations.HoldAndRelease : Prop :=
  (∀ (b : Byte) (n : Nat) (s : State), Taken s (.hold b) n →
    (64 ≤ b.toNat → exec (.hold b n) s = .next (unchanged s (.hold b) n .badArg)) ∧
    (∀ i : Index, Names b i →
      (s.entry i = none → exec (.hold b n) s = .next (unchanged s (.hold b) n .badState)) ∧
      (∀ e, s.entry i = some e →
        (e.kind = .input → exec (.hold b n) s = .next (unchanged s (.hold b) n .badKind)) ∧
        (e.kind ≠ .input → e.state = .retiring → exec (.hold b n) s = .next (unchanged s (.hold b) n .badState)) ∧
        (e.kind ≠ .input → e.state ≠ .retiring →
          exec (.hold b n) s = .next (answered s (withEntryAt s i { e with held := true }) (.hold b) n .ok []))))) ∧
  (∀ (b : Byte) (n : Nat) (s : State), Taken s (.release b) n →
    (64 ≤ b.toNat → exec (.release b n) s = .next (unchanged s (.release b) n .badArg)) ∧
    (∀ i : Index, Names b i →
      (s.entry i = none → exec (.release b n) s = .next (unchanged s (.release b) n .badState)) ∧
      (∀ e, s.entry i = some e →
        (e.kind = .input → exec (.release b n) s = .next (unchanged s (.release b) n .badKind)) ∧
        (e.kind ≠ .input → e.state = .retiring →
          exec (.release b n) s = .next (unchanged s (.release b) n .badState)) ∧
        (e.kind ≠ .input → e.state ≠ .retiring →
          (e.held = false ∨ e.kind = .bridge ∨ e.state ≠ .live ∨ s.mode (s.home i) = .beaconed ∨ e.staged = none →
            exec (.release b n) s =
              .next (answered s (withEntryAt s i { e with held := false }) (.release b) n .ok [])) ∧
          (∀ v, e.held = true → e.kind = .output → e.state = .live → s.mode (s.home i) = .free → e.staged = some v →
            exec (.release b n) s =
              .next (answered s (withEntryAt s i
                { e with held := false, staged := none, value := some v
                         publishPending := e.publishPending ||
                           (decide (e.mode ≠ .onQuery) && decide (e.value ≠ some v)) })
                (.release b) n .ok []))))))

/-! ### The queue, the flags and the pins -/

/-- R159: TAKE removes the head of the queue, returns it with its causes and empties that set. -/
def Obligations.TakeReturnsHead : Prop :=
  ∀ (n : Nat) (s : State), Taken s .take n →
    (s.queue = [] → exec (.take n) s = .next (answered s (s.servicePins s) .take n .queueEmpty [0, 0, 0])) ∧
    (∀ i rest e, s.queue = i :: rest → s.entry i = some e →
      exec (.take n) s =
        .next (answered s
          ({ s with entries := s.entries.set i (some { e with causes := .nothing }), queue := rest }.servicePins s)
          .take n .ok (BitVec.ofNat 8 i.val :: causeBytes e.causes)))

/-- R164, R181: EVENTS shows the seventeen flags in their positions and changes no block; ACK_EVENTS clears the named
latched flags, leaves the others and QUEUE_READY, and answers OK. -/
def Obligations.EventsAndAcknowledge : Prop :=
  (∀ (n : Nat) (s : State), Taken s .events n → ∃ b0 b1 b2 : Byte,
    exec (.events n) s = .next (answered s s .events n .ok [b0, b1, b2]) ∧
    (∀ k (f : LineFlag), lineFlags[k]? = some f →
      b0.getLsbD k = s.flag (.ofLine .a f) ∧ b1.getLsbD k = s.flag (.ofLine .b f)) ∧
    b0.getLsbD 7 = false ∧ b1.getLsbD 7 = false ∧
    b2 = BitVec.ofNat 8 ((s.flag .queueReady).toNat + 2 * (s.flag .applyDone).toNat + 4 * (s.flag .applyFault).toNat) ∧
    s.flag .queueReady = decide (s.queue ≠ [])) ∧
  (∀ (m0 m1 m2 : Byte) (n : Nat) (s : State), Taken s (.ackEvents m0 m1 m2) n → ∃ x : Flags,
    exec (.ackEvents m0 m1 m2 n) s =
      .next (answered s ({ s with flags := x }.servicePins s) (.ackEvents m0 m1 m2) n .ok []) ∧
    (∀ k (f : LineFlag), lineFlags[k]? = some f →
      (x.line.get .a).get f = ((s.flags.line.get .a).get f && !m0.getLsbD k) ∧
      (x.line.get .b).get f = ((s.flags.line.get .b).get f && !m1.getLsbD k)) ∧
    x.applyDone = (s.flags.applyDone && !m2.getLsbD 1) ∧ x.applyFault = (s.flags.applyFault && !m2.getLsbD 2))

/-- R166, R167: every TAKE and ACK_EVENTS taken re-pulses a pin that keeps its demand and releases one that has none after
it; at the end of a window the pin is asserted if it then has demand, and outside a window there is none to end
(windows without time are the model's, log 14). -/
def Obligations.ServiceRepulsesPins : Prop :=
  (∀ (c : Instr) (r : Request) (n : Nat) (s : State) (p : PinId), requestOf c = some (r, n) → Taken s r n →
    (c = .take n ∨ ∃ m0 m1 m2, c = .ackEvents m0 m1 m2 n) →
    ∃ t, exec c s = .next t ∧
      (s.demand p = true → t.demand p = true → t.pins.get p = .repulse) ∧
      (t.demand p = false → t.pins.get p = .released) ∧
      (t.demand p = true → s.demand p = true)) ∧
  (∀ (p : PinId) (s : State),
    (s.pins.get p = .repulse →
      exec (.repulseWindowEnd p) s =
        .next { s with pins := s.pins.put p (if s.demand p = true then .asserted else .released) }) ∧
    (s.pins.get p ≠ .repulse → exec (.repulseWindowEnd p) s = .next s))

/-! ### Lines -/

/-- R176: LINE answers OK with the line view and changes no block. That a waiting bank-map portion is shown alike for both
lines is the model's reading of section 10.2 (log 22). -/
def Obligations.LineShowsView : Prop :=
  ∀ (b : Byte) (n : Nat) (s : State), Taken s (.line b) n →
    (1 < b.toNat → exec (.line b n) s = .next (unchanged s (.line b) n .badArg)) ∧
    (∀ l : LineId, NamesLine b l →
      exec (.line b n) s = .next (answered s s (.line b) n .ok
        [ BitVec.ofNat 8 (lineNumber l),
          BitVec.ofNat 8 (128 * (s.line.get l).rejoin.toNat + 64 * (s.cycle.get l).acting.number +
            16 * syncNumber (s.cycle.get l).sync + lineStateNumber (s.line.get l).state),
          BitVec.ofNat 8 (16 * (s.cycle.get l).holdOff + (s.cycle.get l).cycle.toNat),
          BitVec.ofNat 8 (s.line.get l).transmitCount,
          BitVec.ofNat 8 (if (s.line.get l).state = .off then (s.line.get l).recovery else (s.line.get l).receiveCount),
          BitVec.ofNat 8 (errorNumber (s.line.get l).lastError),
          (match (s.line.get l).attempt.map Attempt.owner with
            | none => 0
            | some .beacon => 64
            | some (.publish i) => BitVec.ofNat 8 (128 + i.val)
            | some (.ask i) => BitVec.ofNat 8 (192 + i.val)),
          (match s.applySet with
            | none => 0
            | some p => BitVec.ofNat 8 ((p.lineWaiting.get l).toNat + 2 * p.bankWaiting.toNat)) ]))

/-- R119: ATTACH, by the line state. -/
def Obligations.AttachByLineState : Prop :=
  ∀ (b : Byte) (n : Nat) (s : State), Taken s (.attach b) n →
    (1 < b.toNat → exec (.attach b n) s = .next (unchanged s (.attach b) n .badArg)) ∧
    (∀ l : LineId, NamesLine b l →
      ((s.line.get l).state = .detached →
        exec (.attach b n) s =
          .next (answered s { s with line := s.line.set l { s.line.get l with state := .joining }
                                     engine := s.engine.set l (.recovering 0) } (.attach b) n .ok [])) ∧
      ((s.line.get l).state = .joining ∨ (s.line.get l).state = .active ∨ (s.line.get l).state = .guarded →
        exec (.attach b n) s = .next (answered s s (.attach b) n .ok [])) ∧
      ((s.line.get l).state = .off →
        exec (.attach b n) s =
          .next (answered s { s with line := s.line.set l { s.line.get l with rejoin := true } }
            (.attach b) n .pending [])))

/-- R121, R115, R142, R16, R44, R52, R76, R82, R158, R186, R188: DETACH of a line. On a line already DETACHED it has no
effect: the notice it gives finds nothing to apply in a state that keeps the invariants of settings and pins (log 19). -/
def Obligations.DetachStopsLine : Prop :=
  ∀ (b : Byte) (n : Nat) (s : State), Taken s (.detach b) n →
    (1 < b.toNat → exec (.detach b n) s = .next (unchanged s (.detach b) n .badArg)) ∧
    (∀ l : LineId, NamesLine b l → (s.line.get l).state = .detached → SetWaits s → PinsAgree s →
      exec (.detach b n) s = .next (answered s s (.detach b) n .ok [])) ∧
    (∀ l : LineId, NamesLine b l → (s.line.get l).state ≠ .detached → ∃ t,
      exec (.detach b n) s = .next t ∧ t.port.held = { status := .ok, result := [] } ∧
      t.line.get l = { s.line.get l with state := .detached, recovery := 0, rejoin := false, attempt := none } ∧
      t.engine.get l = .stopped ∧ (t.cycle.get l).cycle = (s.cycle.get l).cycle ∧
      (s.participates l = true →
        (t.cycle.get l).sync = idleSync (t.mode l) ∧ (t.cycle.get l).holdOff = 0 ∧
        (t.cycle.get l).acting = (t.applied.line.get l).role ∧ (t.cycle.get l).fresh = false ∧
        (t.cycle.get l).due = false ∧ (t.cycle.get l).periodTimer = .stopped ∧ (t.cycle.get l).watchTimer = .stopped) ∧
      SameLine s t l.other ∧ t.staged = s.staged ∧ t.samples = s.samples ∧ t.pending = s.pending ∧
      (∀ f m, t.flag (.ofLine m f) = s.flag (.ofLine m f)) ∧ PinsJudged s t ∧
      (∀ i e, s.entry i = some e → e.kind ≠ .output ∨ s.applySet = none →
        t.entry i = (afterAttempt s l i e).map (afterLoss s l i)) ∧
      (∀ i e, s.entry i = some e → e.kind = .output → t.entry i = afterAttempt s l i e ∨
        ∃ x, afterAttempt s l i e = some x ∧ x.state = .live ∧ x.held = false ∧
          ∃ v, x.staged = some v ∧ t.entry i = some (sampledOnFree x v)) ∧
      (∀ i, s.entry i = none → t.entry i = none) ∧
      QueueMoves s t (emptiedBy s l) (frozenAt s l) ∧
      (s.applySet = none → SameSettings s t) ∧
      (∀ p, s.applySet = some p →
        t.applied.routes = s.applied.routes ∧ t.applied.line.get l.other = s.applied.line.get l.other ∧
        t.applied.line.get l = (if p.lineWaiting.get l = true then p.values.line.get l else s.applied.line.get l) ∧
        t.applied.bankMap =
          (if p.bankWaiting = true ∧ s.isDetached l.other = true ∧ guardHolds p.values.bankMap t.entries = true then
            p.values.bankMap else s.applied.bankMap)))

/-- R109, R124, R125: a good frame of any kind counts as a reception and ends in INTERMISSION; the other line, the
settings and the host port stay. R96: an illegal frame is a FORM error, and a frame that carries nothing usable reaches no
block beyond the line controller. R69, R84: a query that meets a frame of this part in flight on its line is counted too,
and engine and buffer stay (the model's choice, log 31). A line that cannot receive is left as it is (log 3); a frame
command is read by its content, whatever its row (log 8). -/
def Obligations.GoodFramesCount : Prop :=
  ∀ (c : Instr) (l : LineId) (w : WireFrame) (s : State), frameOf c = some (l, w) →
    (s.canReceive l = true → w.legal = true → ∃ t, exec c s = .next t ∧
      t.line.get l = counted (s.line.get l) (s.line.get l).transmitCount ((s.line.get l).receiveCount - 1) ∧
      t.engine.get l = .intermission 0 ∧ SameLine s t l.other ∧ SameSettings s t ∧ SameOutside s t ∧ PinsJudged s t ∧
      (w.kind ≠ 0 → t.cycle = s.cycle ∧
        Raises s t (countFlags s l (s.line.get l).transmitCount ((s.line.get l).receiveCount - 1)))) ∧
    (s.canReceive l = true → w.legal = false → exec c s = exec (.receiveError l .form) s) ∧
    (s.canReceive l = true → w.unusable = true → ∃ t, exec c s = .next t ∧ SameDirectory s t ∧ t.cycle = s.cycle) ∧
    (s.sendingAttempt l ≠ none → w.kind = 1 → w.legal = true → ∃ t, exec c s = .next t ∧
      t.line.get l = counted (s.line.get l) (s.line.get l).transmitCount ((s.line.get l).receiveCount - 1) ∧
      t.engine = s.engine ∧ t.cycle = s.cycle ∧ SameLine s t l.other ∧ SameSettings s t ∧ SameOutside s t ∧
      PinsJudged s t ∧ Raises s t (countFlags s l (s.line.get l).transmitCount ((s.line.get l).receiveCount - 1))) ∧
    (s.canReceive l = false → s.sendingAttempt l = none ∨ w.kind ≠ 1 ∨ w.legal = false → exec c s = .next s)

/-- R30 to R36, R4, R7: an accepted reception, in all its outcomes. -/
def Obligations.DataAccepted : Prop :=
  ∀ (l : LineId) (tag : Tag) (v : Value) (s : State) (i : Index) (e : Entry),
    s.canReceive l = true → tag ≠ 0 → v.length ≤ 8 → s.receivingMatch l tag = some i → s.entry i = some e →
    e.state = .live ∨ e.state = .stale →
    ∃ t, exec (.dataFrame l tag v) s = .next t ∧
      (let run := match e.candidate with
        | some c => if c.value = v then c.run + 1 else 1
        | none => 1
       let causes := { e.causes with freshened := e.causes.freshened || decide (e.state = .stale) }
       let x := { e with age := 0, state := .live, causes := causes }
       (e.value = some v → t.entry i = some { x with candidate := none }) ∧
       (e.value ≠ some v → run ≠ e.confirm → t.entry i = some { x with candidate := some { value := v, run := run } }) ∧
       (e.value ≠ some v → run = e.confirm →
        t.entry i = some
          { x with value := some v, candidate := none
                   stamp := if s.mode l = .beaconed ∧ (s.cycle.get l).sync = .synced then some (s.cycle.get l).cycle else none
                   publishPending := e.publishPending || decide (e.kind = .bridge)
                   causes := { causes with committed := true, superseded := causes.superseded || causes.committed } }))

/-- R21 to R24, R48, R77: what a DATA frame does at every other entry, and the order in the change queue (R158). -/
def Obligations.DataElsewhere : Prop :=
  ∀ (l : LineId) (tag : Tag) (v : Value) (s : State), s.canReceive l = true → tag ≠ 0 → v.length ≤ 8 →
    ∃ t, exec (.dataFrame l tag v) s = .next t ∧
      (∀ i, s.receivingMatch l tag ≠ some i → s.publishingMatch l tag ≠ some i → t.entry i = s.entry i) ∧
      (∀ i e, s.receivingMatch l tag = some i → s.entry i = some e → e.state = .frozen → t.entry i = some e) ∧
      (∀ i e, s.publishingMatch l tag = some i → s.entry i = some e →
        t.entry i = some { e with causes := { e.causes with conflict := true } }) ∧
      Appends s t (fun i => match s.entry i, t.entry i with
        | some e, some x => e.notify &&
            (decide (s.publishingMatch l tag = some i) ||
              decide (s.receivingMatch l tag = some i) && (decide (e.state = .stale) || decide (e.state = .live ∧ x.value ≠ e.value)))
        | _, _ => false)

/-- R67, R69, R84: a QUERY sets publish pending on its winner and raises QUERIED, while a frame of this part is in flight
on the line as well (that the line takes it then is the model's choice, log 31); a SPENT winner ignores it. -/
def Obligations.QueryOwesFrame : Prop :=
  ∀ (l : LineId) (tag : Tag) (s : State), s.canReceive l = true ∨ s.sendingAttempt l ≠ none → tag ≠ 0 →
    ∃ t, exec (.queryFrame l tag) s = .next t ∧
      (∀ i e, s.publishingMatch l tag = some i → s.entry i = some e →
        e.state = .live ∨ e.state = .stale ∨ e.state = .frozen →
        t.entry i = some { e with publishPending := true, causes := { e.causes with queried := true } }) ∧
      (∀ i e, s.publishingMatch l tag = some i → s.entry i = some e → e.state = .spent → t.entry i = some e) ∧
      (∀ i, s.publishingMatch l tag ≠ some i → t.entry i = s.entry i) ∧
      Appends s t (fun i => match s.entry i with
        | some e => e.notify && decide (s.publishingMatch l tag = some i) && decide (e.state ≠ .spent)
        | none => false)

/-- R68, R69, R84: a RECALL reaches, in one event, every entry on its line with RECALL that is LIVE, STALE or FROZEN, while
a frame of this part is in flight on the line as well (the model's choice, log 31). -/
def Obligations.RecallSweeps : Prop :=
  ∀ (l : LineId) (s : State) (reached : Index → Entry → Bool), s.canReceive l = true ∨ s.sendingAttempt l ≠ none →
    (∀ i e, reached i e = true ↔ e.answersRecall = true ∧
      ((e.kind = .output ∧ s.home i = l) ∨ (e.kind = .bridge ∧ (s.home i).other = l)) ∧
      (e.state = .live ∨ e.state = .stale ∨ e.state = .frozen)) →
    ∃ t, exec (.recallFrame l) s = .next t ∧
      (∀ i e, s.entry i = some e → reached i e = true →
        t.entry i = some { e with publishPending := true, causes := { e.causes with queried := true } }) ∧
      (∀ i e, s.entry i = some e → reached i e = false → t.entry i = some e) ∧
      (∀ i, s.entry i = none → t.entry i = none) ∧
      Appends s t (fun i => match s.entry i with
        | some e => e.notify && reached i e
        | none => false)

/-! ### Cycles -/

/-- R144, R145: a good BEACON at a FOLLOWER of a BEACONED line is a boundary: the cycle number, the watch and the sync
state move, and SYNC_GAINED is raised at the end of the hold-off. -/
def Obligations.FollowerTakesBeacon : Prop :=
  ∀ (l : LineId) (address number : Byte) (s : State), s.canReceive l = true → beaconInRange address number = true →
    s.mode l = .beaconed → (s.cycle.get l).acting = .follower →
    ∃ t, exec (.beaconFrame l address number) s = .next t ∧
      t.cycle.get l = unitAfter s l (s.cycle.get l) (number.setWidth 4) ∧
      Raises s t (fun f =>
        countFlags s l (s.line.get l).transmitCount ((s.line.get l).receiveCount - 1) f ||
        (f == .ofLine l .syncGained && decide ((s.cycle.get l).sync = .regaining ∧ (t.cycle.get l).sync = .synced)))

/-- R38, R39, R45, R46, R61, R65, R158: what a boundary does to every entry of its line and to the queue, and that it
leaves the other line's entries (with REFRESH 1 R39 is followed, log 27). -/
def Obligations.BoundaryAtDirectory : Prop :=
  ∀ (l : LineId) (address number : Byte) (s : State), s.canReceive l = true → beaconInRange address number = true →
    s.mode l = .beaconed → (s.cycle.get l).acting = .follower →
    ∃ t, exec (.beaconFrame l address number) s = .next t ∧ BoundaryTaken s t l (number.setWidth 4)

/-- R152, R145: a BEACON of lower address makes a SOURCE yield and is a boundary, at the unit and at the directory (log
27); one of equal or higher address raises CONTESTED and is none. R139: the unit of a FREE line discards a good BEACON. -/
def Obligations.SourceMeetsBeacon : Prop :=
  ∀ (l : LineId) (address number : Byte) (s : State), s.canReceive l = true → beaconInRange address number = true →
    ∃ t, exec (.beaconFrame l address number) s = .next t ∧
      (s.mode l = .beaconed → (s.cycle.get l).acting = .source →
        address.toNat < (s.applied.line.get l).nodeAddress →
        t.cycle.get l = unitAfter s l
          { s.cycle.get l with acting := .follower, due := false, fresh := false, periodTimer := .stopped }
          (number.setWidth 4) ∧
        BoundaryTaken s t l (number.setWidth 4) ∧
        t.flag (.ofLine l .yielded) = true ∧ t.flag (.ofLine l .contested) = s.flag (.ofLine l .contested)) ∧
      (s.mode l = .beaconed → (s.cycle.get l).acting = .source →
        (s.applied.line.get l).nodeAddress ≤ address.toNat →
        t.cycle = s.cycle ∧ SameDirectory s t ∧ t.flag (.ofLine l .contested) = true ∧
        t.flag (.ofLine l .yielded) = s.flag (.ofLine l .yielded)) ∧
      (s.mode l = .free → t.cycle = s.cycle ∧ SameDirectory s t)

/-- R149: an expiry of the running period timer restarts it and sets beacon due; a stopped timer does not expire (log 3,
log 13). -/
def Obligations.PeriodExpirySetsDue : Prop :=
  ∀ (l : LineId) (s : State),
    ((s.cycle.get l).periodTimer ≠ .stopped →
      exec (.periodExpiry l) s = .next (s.withCycle l
        { s.cycle.get l with periodTimer := .running ((s.applied.line.get l).cyclePeriod * 16000), due := true })) ∧
    ((s.cycle.get l).periodTimer = .stopped → exec (.periodExpiry l) s = .next s)

/-- R147, R153, R44: an expiry of the running watch; a stopped watch does not expire (log 3, log 13). -/
def Obligations.WatchExpiryLosesSync : Prop :=
  ∀ (l : LineId) (s : State),
    ((s.cycle.get l).watchTimer = .stopped → exec (.watchExpiry l) s = .next s) ∧
    ((s.cycle.get l).watchTimer ≠ .stopped → ∃ t, exec (.watchExpiry l) s = .next t ∧
      (let u := { s.cycle.get l with watchTimer := .stopped, sync := .unsynced, holdOff := 0 }
       t.cycle.get l =
        if (s.applied.line.get l).role = .source ∧ u.acting = .follower then
          { u with acting := .source, due := true
                   periodTimer := .running ((s.applied.line.get l).cyclePeriod * 16000) }
        else u) ∧
      Raises s t (fun f => f == .ofLine l .syncLost && decide ((s.cycle.get l).sync = .synced)) ∧
      t.line = s.line ∧ t.engine = s.engine ∧ t.cycle.get l.other = s.cycle.get l.other ∧
      SameSettings s t ∧ SameOutside s t ∧ PinsJudged s t ∧
      (∀ i e, s.entry i = some e →
        t.entry i = some
          (if s.usable l = true ∧ s.mode l = .beaconed ∧ s.home i = l ∧ e.kind ≠ .output ∧
            (e.state = .live ∨ e.state = .stale) then frozenEntry e else e)) ∧
      (∀ i, s.entry i = none → t.entry i = none) ∧
      Appends s t (fun i => match s.entry i with
        | some e => e.notify && decide (s.usable l = true ∧ s.mode l = .beaconed ∧ s.home i = l ∧ e.kind ≠ .output ∧
            (e.state = .live ∨ e.state = .stale))
        | none => false))

/-! ### Attempts -/

/-- R133 to R135, R150: a selection takes the due beacon, otherwise the frame of the lowest index that offers one, and
copies it; without the conditions of R133 nothing is selected (log 3, log 15). -/
def Obligations.SelectionTakesLowest : Prop :=
  ∀ (l : LineId) (s : State),
    (s.canSelect l = false → exec (.transmitSelection l) s = .next s) ∧
    (s.canSelect l = true →
      (s.mode l = .beaconed → (s.cycle.get l).due = true →
        exec (.transmitSelection l) s = .next (s.withLine l
          { s.line.get l with attempt := some (ownBeacon s l) })) ∧
      (s.mode l = .free ∨ (s.cycle.get l).due = false →
        (∀ i e v, s.entry i = some e → (∀ j, j < i → OffersNothing s l j) → OffersPublish s l i e v →
          exec (.transmitSelection l) s =
            .next (withCopy s l i e { owner := .publish i, frame := .data (publishTag e) v })) ∧
        (∀ i e, s.entry i = some e → (∀ j, j < i → OffersNothing s l j) → OffersAsk s l i e →
          exec (.transmitSelection l) s = .next (withCopy s l i e { owner := .ask i, frame := .query e.tag })) ∧
        ((∀ i, OffersNothing s l i) → exec (.transmitSelection l) s = .next s)))

/-- R110, R124, R136: a success at the line, whoever owns the frame. The events of a sender do not happen on a line that is
not sending, nor a CHECK error as sender (R112, log 3). -/
def Obligations.SuccessAtLine : Prop :=
  ∀ (l : LineId) (s : State),
    (s.sendingAttempt l = none →
      exec (.transmitSuccess l) s = .next s ∧ exec (.arbitrationLoss l) s = .next s ∧
      exec (.startCollision l) s = .next s ∧ ∀ kind, exec (.transmitError l kind) s = .next s) ∧
    exec (.transmitError l .check) s = .next s ∧
    (∀ a, s.sendingAttempt l = some a → ∃ t, exec (.transmitSuccess l) s = .next t ∧
      t.line.get l =
        { counted (s.line.get l) ((s.line.get l).transmitCount - 1) (s.line.get l).receiveCount with attempt := none } ∧
      t.engine.get l = .intermission 0 ∧ SameLine s t l.other ∧ SameSettings s t ∧ SameOutside s t ∧ PinsJudged s t)

/-- R52, R74, R75, R82, R16: a success at the entry that owns the frame. -/
def Obligations.SuccessAtEntry : Prop :=
  ∀ (l : LineId) (s : State) (a : Attempt) (i : Index) (e : Entry),
    s.sendingAttempt l = some a → s.entry i = some e → e.inFlight.get l = true →
    ∃ t, exec (.transmitSuccess l) s = .next t ∧
      (∀ j, j ≠ i → a.owner = .publish i ∨ a.owner = .ask i → t.entry j = s.entry j) ∧
      (let stamp := if s.mode l = .beaconed ∧ (s.cycle.get l).sync = .synced then some (s.cycle.get l).cycle else none
       let x := { e with inFlight := e.inFlight.set l false }
       let causes := { e.causes with published := true }
       (a.owner = .ask i → e.state ≠ .retiring → t.entry i = some { x with askPending := false }) ∧
       (∀ tag v, a.owner = .publish i → a.frame = .data tag v → e.state ≠ .retiring →
         (e.kind = .output → e.oneShot = false →
           t.entry i = some { x with stamp := stamp, causes := causes, publishPending := decide (e.value ≠ some v) }) ∧
         (e.kind = .output → e.oneShot = true →
           t.entry i = some { x with stamp := stamp, causes := causes, publishPending := false, state := .spent }) ∧
         (e.kind = .bridge →
           t.entry i = some { x with causes := causes, publishPending := decide (e.value ≠ some v) })) ∧
       (a.owner = .publish i ∨ a.owner = .ask i → e.state = .retiring →
         t.entry i = if e.inFlight.get l.other = true then some x else none) ∧
       (a.owner = .ask i → e.state ≠ .retiring → t.queue = s.queue) ∧
       (a.owner = .publish i → e.kind ≠ .input → e.state ≠ .retiring →
         Appends s t (fun j => decide (j = i) && e.notify)) ∧
       (a.owner = .publish i ∨ a.owner = .ask i → e.state = .retiring → e.inFlight.get l.other = false →
         t.queue = s.queue.filter fun j => j != i) ∧
       (a.owner ≠ .beacon → t.cycle = s.cycle ∧
         Raises s t (countFlags s l ((s.line.get l).transmitCount - 1) (s.line.get l).receiveCount)))

/-- R151, R145: a success of the line's own BEACON is a boundary, at the unit and at the directory (log 27), and clears
beacon due and fresh numbering. -/
def Obligations.OwnBeaconIsBoundary : Prop :=
  ∀ (l : LineId) (s : State) (address : Nat) (number : BitVec 4),
    s.sendingAttempt l = some { owner := .beacon, frame := .beacon address number } →
    ∃ t, exec (.transmitSuccess l) s = .next t ∧
      t.cycle.get l = unitAfter s l { s.cycle.get l with due := false, fresh := false } number ∧
      Raises s t (fun f =>
        countFlags s l ((s.line.get l).transmitCount - 1) (s.line.get l).receiveCount f ||
        (f == .ofLine l .syncGained && decide ((s.cycle.get l).sync = .regaining ∧ (t.cycle.get l).sync = .synced))) ∧
      BoundaryTaken s t l number

/-- R16, R76, R82, R52, R103, R104, R136, R151: an arbitration loss and a start collision end the attempt, keep what is
pending, count nothing and raise nothing (the phases passed between commands are the model's, log 9). -/
def Obligations.LossesKeepPending : Prop :=
  ∀ (c : Instr) (l : LineId) (s : State) (a : Attempt), s.sendingAttempt l = some a →
    (c = .arbitrationLoss l ∨ (c = .startCollision l ∧ ∃ k, s.engine.get l = .idle k)) →
    ∃ t, exec c s = .next t ∧
      t.line.get l = { s.line.get l with attempt := none } ∧ (∃ bits, t.engine.get l = .receiving bits) ∧
      (c = .startCollision l → t.engine.get l = .receiving (some [])) ∧
      SameLine s t l.other ∧ t.cycle = s.cycle ∧ t.flags = s.flags ∧ SameSettings s t ∧ SameOutside s t ∧
      (∀ i e, s.entry i = some e → t.entry i = afterAttempt s l i e) ∧
      (∀ i, s.entry i = none → t.entry i = none) ∧ QueueMoves s t (emptiedBy s l) (fun _ => false)

/-! ### Errors -/

/-- R112, R114, R123, R126, R113: an error as receiver. An error kind that a receiver does not detect, and an error on a
line that cannot receive, do not happen (log 3). -/
def Obligations.ReceiveErrorCounts : Prop :=
  ∀ (l : LineId) (kind : ErrorKind) (s : State),
    (s.canReceive l = true → kind = .pace ∨ kind = .check ∨ kind = .form →
      ∃ t, exec (.receiveError l kind) s = .next t ∧
        t.line.get l = { counted (s.line.get l) (s.line.get l).transmitCount (min ((s.line.get l).receiveCount + 1) 127) with
                         lastError := some kind } ∧
        t.engine.get l = .flagging (decide ((s.line.get l).state = .active)) (if kind = .check then 1 else 0) 0 ∧
        Raises s t (fun f => f == .ofLine l .lineError ||
          countFlags s l (s.line.get l).transmitCount (min ((s.line.get l).receiveCount + 1) 127) f) ∧
        SameLine s t l.other ∧ t.cycle = s.cycle ∧ SameDirectory s t ∧ SameSettings s t ∧ SameOutside s t ∧
        PinsJudged s t) ∧
    (s.canReceive l = false ∨ kind = .bit ∨ kind = .noAck → exec (.receiveError l kind) s = .next s)

/-- R114, R123, R125, R126, R136, R16, R52, R76, R82: an error as sender that does not bring the transmit count to 200. -/
def Obligations.TransmitErrorCounts : Prop :=
  ∀ (l : LineId) (kind : ErrorKind) (s : State) (a : Attempt) (cost : Nat),
    s.sendingAttempt l = some a → kind ≠ .check →
    cost = (if kind = .noAck ∧ (s.line.get l).state = .guarded then 0 else 6) →
    (s.line.get l).transmitCount + cost < 200 →
    ∃ t, exec (.transmitError l kind) s = .next t ∧
      t.line.get l = { counted (s.line.get l) ((s.line.get l).transmitCount + cost) (s.line.get l).receiveCount with
                       lastError := some kind, attempt := none } ∧
      t.engine.get l = .flagging (decide ((s.line.get l).state = .active)) 0 0 ∧
      Raises s t (fun f => f == .ofLine l .lineError ||
        countFlags s l ((s.line.get l).transmitCount + cost) (s.line.get l).receiveCount f) ∧
      SameLine s t l.other ∧ t.cycle = s.cycle ∧ SameSettings s t ∧ SameOutside s t ∧ PinsJudged s t ∧
      (∀ i e, s.entry i = some e → t.entry i = afterAttempt s l i e) ∧
      (∀ i, s.entry i = none → t.entry i = none) ∧ QueueMoves s t (emptiedBy s l) (fun _ => false)

/-- R128, R137, R142, R16, R44, R52, R76, R82, R158: an error as sender that brings the transmit count to 200 makes the line OFF (its engine
first ends the passive flag, log 12). -/
def Obligations.TransmitErrorEntersOff : Prop :=
  ∀ (l : LineId) (kind : ErrorKind) (s : State) (a : Attempt),
    s.sendingAttempt l = some a → kind = .bit ∨ kind = .pace ∨ kind = .form → (s.line.get l).state = .guarded →
    200 ≤ (s.line.get l).transmitCount + 6 →
    ∃ t, exec (.transmitError l kind) s = .next t ∧
      t.line.get l = { state := .off, transmitCount := 0, receiveCount := 0, recovery := 0, lastError := some kind,
                       rejoin := false, attempt := none } ∧
      t.engine.get l = .flagging false 0 0 ∧
      t.cycle.get l = { s.cycle.get l with sync := idleSync (s.mode l), holdOff := 0
                                           acting := (s.applied.line.get l).role, fresh := false, due := false
                                           periodTimer := .stopped, watchTimer := .stopped } ∧
      Raises s t (fun f => f == .ofLine l .lineError || f == .ofLine l .lineState || f == .ofLine l .caution) ∧
      SameLine s t l.other ∧ SameSettings s t ∧ SameOutside s t ∧ PinsJudged s t ∧
      (∀ i e, s.entry i = some e → t.entry i = (afterAttempt s l i e).map (afterLoss s l i)) ∧
      (∀ i, s.entry i = none → t.entry i = none) ∧ QueueMoves s t (emptiedBy s l) (frozenAt s l)

/-! ### Idle sequences -/

/-- R120, R142, R45, R158: the idle sequence that completes a join. -/
def Obligations.JoinCompletes : Prop :=
  ∀ (l : LineId) (s : State) (k : Nat), (s.line.get l).state = .joining → s.engine.get l = .recovering k →
    ∃ t, exec (.idleSequence l) s = .next t ∧
      t.line.get l = { s.line.get l with
        state := if (s.line.get l).transmitCount < 100 ∧ (s.line.get l).receiveCount < 100 then .active else .guarded } ∧
      t.engine.get l = .idle 0 ∧ Raises s t (fun f => f == .ofLine l .lineState) ∧
      t.cycle.get l = (if s.mode l = .beaconed ∧ (s.cycle.get l).acting = .source then
        { s.cycle.get l with fresh := true, periodTimer := .running ((s.applied.line.get l).cyclePeriod * 16000) }
        else s.cycle.get l) ∧
      SameLine s t l.other ∧ SameSettings s t ∧ SameOutside s t ∧ PinsJudged s t ∧
      (s.mode l = .free → LineThaws s t l) ∧
      (∀ i e, s.entry i = some e → s.home i ≠ l ∨ e.kind = .output ∨ e.state ≠ .frozen → t.entry i = some e) ∧
      (∀ i, s.entry i = none → t.entry i = none) ∧
      (s.mode l = .beaconed → (s.cycle.get l).sync = .unsynced → SameDirectory s t)

/-- R129, R130, R142, R45, R158: an idle sequence in OFF counts up to the 63rd; the 64th ends the recovery in ACTIVE or in DETACHED. -/
def Obligations.RecoveryRuns : Prop :=
  (∀ (l : LineId) (s : State) (k : Nat), (s.line.get l).state = .off → s.engine.get l = .recovering k →
    (s.line.get l).recovery + 1 < 64 → ∃ t, exec (.idleSequence l) s = .next t ∧
      t.line.get l = { s.line.get l with recovery := (s.line.get l).recovery + 1 } ∧
      t.engine.get l = .recovering 0 ∧ SameLine s t l.other ∧ t.cycle = s.cycle ∧ SameDirectory s t ∧
      t.flags = s.flags ∧ SameSettings s t ∧ SameOutside s t) ∧
  (∀ (l : LineId) (s : State) (k : Nat), (s.line.get l).state = .off → s.engine.get l = .recovering k →
    (s.line.get l).recovery = 63 → ∃ t, exec (.idleSequence l) s = .next t ∧
      (let rejoins := (s.line.get l).rejoin || (s.applied.line.get l).autoRejoin
       t.line.get l = { s.line.get l with state := if rejoins = true then .active else .detached
                                          transmitCount := 0, receiveCount := 0, recovery := 0, rejoin := false } ∧
       t.engine.get l = (if rejoins = true then .idle 0 else .stopped) ∧
       t.flag (.ofLine l .lineState) = true ∧ SameLine s t l.other ∧ t.staged = s.staged ∧ SameOutside s t ∧
       PinsJudged s t ∧
       (rejoins = true → SameSettings s t ∧ Raises s t (fun f => f == .ofLine l .lineState) ∧
         t.cycle.get l = (if s.mode l = .beaconed ∧ (s.cycle.get l).acting = .source then
           { s.cycle.get l with fresh := true, periodTimer := .running ((s.applied.line.get l).cyclePeriod * 16000) }
           else s.cycle.get l) ∧
         (s.mode l = .free → LineThaws s t l) ∧
         (s.mode l = .beaconed → (s.cycle.get l).sync = .unsynced → SameDirectory s t)) ∧
       (rejoins = false → s.applySet = none → SameSettings s t ∧ SameDirectory s t) ∧
       (rejoins = false → ∀ p, s.applySet = some p → p.lineWaiting.get l = true →
         t.applied.line.get l = p.values.line.get l)))

/-- R101: elsewhere an idle sequence moves only the engine; a stopped engine and one in a frame deliver none
(log 3). -/
def Obligations.IdleSequenceElsewhere : Prop :=
  ∀ (l : LineId) (s : State),
    (s.participates l = true → (s.engine.get l).countsIdle = true →
      ∃ t, exec (.idleSequence l) s = .next t ∧
        t = { s with engine := s.engine.set l (.idle 0), pins := t.pins } ∧ PinsJudged s t) ∧
    ((s.engine.get l).countsIdle = false → exec (.idleSequence l) s = .next s)

/-! ### Settings and CLEAR -/

/-- R182, R184: SETTING_WRITE writes the staged copy of an item in range and nothing else; SETTING_READ shows the staged,
applied and pending values of an item and changes no block. That a copy of BANK_MAP keeps four bits is the model's (log 17). -/
def Obligations.SettingsWrittenAndRead : Prop :=
  (∀ (code : Byte) (v : BitVec 16) (n : Nat) (s : State), Taken s (.settingWrite code v) n →
    (itemAccepts code v = false →
      exec (.settingWrite code v n) s = .next (unchanged s (.settingWrite code v) n .badArg)) ∧
    (itemAccepts code v = true → ∃ (item : Item) (x : Settings), itemOperand code = some item ∧
      exec (.settingWrite code v n) s = .next (answered s { s with staged := x } (.settingWrite code v) n .ok []) ∧
      x.get item = writtenValue code v ∧ ∀ other, other ≠ item → x.get other = s.staged.get other)) ∧
  (∀ (code : Byte) (n : Nat) (s : State), Taken s (.settingRead code) n →
    (code.toNat = 0 ∨ 0x20 < code.toNat →
      exec (.settingRead code n) s = .next (unchanged s (.settingRead code) n .badArg)) ∧
    (1 ≤ code.toNat → code.toNat ≤ 0x20 → ∃ item, itemOperand code = some item ∧
      exec (.settingRead code n) s = .next (answered s s (.settingRead code) n .ok
        (twoBytes (s.staged.get item) ++ twoBytes (s.applied.get item) ++
          (match s.applySet with
            | some p => if p.waitsFor item = true then 1 :: twoBytes (p.values.get item) else [0, 0, 0]
            | none => [0, 0, 0])))))

/-- R185, R186, R188, R27, R156, R62, R91, R191: APPLY puts into force every portion that can go, answers by what is left,
and raises APPLY_DONE when nothing is left and APPLY_FAULT for a refused map. That the line portions go before the map,
which the sampling of a moved bank shows, is the model's choice (log 28). -/
def Obligations.ApplyByPortions : Prop :=
  ∀ (n : Nat) (s : State), Taken s .apply n → ∃ t, exec (.apply n) s = .next t ∧
    (let waits := lineWouldWait s .a || lineWouldWait s .b || banksWouldWait s
     t.port.held = { status := if waits = true then .pending else .ok, result := [] } ∧
     t.staged = s.staged ∧ t.applied.routes = s.staged.routes ∧
     (∀ l, t.applied.line.get l = if lineWouldWait s l = true then s.applied.line.get l else s.staged.line.get l) ∧
     t.applied.bankMap = (if banksWouldWait s = true ∨ banksRefused s = true then s.applied.bankMap else s.staged.bankMap) ∧
     t.applySet = (if waits = true then some
       { values := s.staged, lineWaiting := { a := lineWouldWait s .a, b := lineWouldWait s .b }
         bankWaiting := banksWouldWait s } else none) ∧
     Raises s t (fun f => (f == .applyDone && !waits) || (f == .applyFault && banksRefused s)) ∧
     t.line = s.line ∧ t.engine = s.engine ∧ t.queue = s.queue ∧ PinsJudged s t ∧
     t.samples = s.samples ∧ t.pending = s.pending ∧
     (∀ l, t.cycle.get l =
       if s.isDetached l = true then
         { s.cycle.get l with sync := idleSync (s.staged.line.get l).cycleMode, acting := (s.staged.line.get l).role }
       else s.cycle.get l) ∧
     (∀ i e, s.entry i = some e → e.kind ≠ .output ∨ e.staged = none ∨ e.state ≠ .live ∨ e.held = true →
       t.entry i = some e) ∧
     (∀ i e v, s.entry i = some e → e.kind = .output → e.state = .live → e.held = false → e.staged = some v →
       t.entry i = some (if sampledByApply s i = true then sampledOnFree e v else e)) ∧
     (∀ i, s.entry i = none → t.entry i = none))

/-- R19, R137, R155, R157, R168, R177, R183, R186: CLEAR (the order inside it: log 20). -/
def Obligations.ClearEmptiesPart : Prop :=
  ∀ (n : Nat) (s : State), Taken s .clear n → ∃ t, exec (.clear n) s = .next t ∧
    t.port.held = { status := .ok, result := [] } ∧
    (∀ i, t.entry i = none) ∧ t.queue = [] ∧
    (∀ l, (s.line.get l).state ≠ .detached →
      t.line.get l = { s.line.get l with state := .detached, recovery := 0, rejoin := false, attempt := none } ∧
      t.engine.get l = .stopped) ∧
    (∀ l, (s.line.get l).state = .detached → t.line.get l = s.line.get l ∧ t.engine.get l = s.engine.get l) ∧
    (∀ l, (t.cycle.get l).cycle = (s.cycle.get l).cycle) ∧
    (∀ l, s.participates l = true →
      (t.cycle.get l).sync = idleSync (t.mode l) ∧ (t.cycle.get l).holdOff = 0 ∧
      (t.cycle.get l).acting = (t.applied.line.get l).role ∧ (t.cycle.get l).fresh = false ∧
      (t.cycle.get l).due = false ∧ (t.cycle.get l).periodTimer = .stopped ∧ (t.cycle.get l).watchTimer = .stopped) ∧
    (∀ f m, t.flag (.ofLine m f) = false) ∧
    t.flag .applyDone = s.applySet.isSome ∧ t.flag .applyFault = false ∧
    t.staged = s.staged ∧ t.applySet = none ∧ t.applied.routes = s.applied.routes ∧
    (∀ l, t.applied.line.get l = match s.applySet with
      | some p => if p.lineWaiting.get l = true then p.values.line.get l else s.applied.line.get l
      | none => s.applied.line.get l) ∧
    t.applied.bankMap = (match s.applySet with
      | some p => if p.bankWaiting = true then p.values.bankMap else s.applied.bankMap
      | none => s.applied.bankMap) ∧
    (∀ p, t.pins.get p = (s.pins.get p).service (s.demand p) (t.demand p)) ∧
    t.samples = s.samples ∧ t.pending = s.pending

/-! ### Bits -/

/-- R94 to R100, R108, R109: a receiver that reads the bits of a legal frame, acknowledged or not, goes on at every bit
but the last, and there has read exactly that frame. -/
def Obligations.ReceiverReadsFrame : Prop :=
  ∀ (w : WireFrame) (ack : Bool), w.legal = true →
    (let bits := regionBits w ++ [ack, true] ++ List.replicate 8 true
     (∀ k, 0 < k → k < bits.length → receiverVerdict (bits.take k) = .more) ∧
     receiverVerdict bits = .complete ∧ readFrame bits = w)

/-- R110, R108: a sender that reads back its own bits completes when the ack slot is dominant and meets NO_ACK when it
is not. -/
def Obligations.SenderCompletesWhenAcknowledged : Prop :=
  ∀ w : WireFrame, w.legal = true →
    (let acked := regionBits w ++ [false, true] ++ List.replicate 8 true
     (∀ k, 0 < k → k < acked.length → senderVerdict w (acked.take k) = .more) ∧
     senderVerdict w acked = .complete ∧
     senderVerdict w (regionBits w ++ [true]) = .error .noAck)

/-! ### Invariants -/

/-- At reset every invariant below holds. -/
def Obligations.InvariantsHoldAtReset : Prop :=
  (∀ l, CountsAgree (State.reset.line.get l) ∧ EngineAgrees State.reset l ∧ UnitAgrees State.reset l) ∧
  FlightAgrees State.reset ∧ (∀ i e, State.reset.entry i = some e → EntryFits e) ∧ FrozenAgrees State.reset ∧
  GuardHolds State.reset ∧ QueueAgrees State.reset ∧ PinsAgree State.reset ∧ CopiesFit State.reset ∧
  SetWaits State.reset ∧ ResetHeld State.reset ∧ ResponseFits State.reset

/-- R94, R116, R117, R123, R125, R129, R131: counts, line states and engine phases keep agreeing at every step. -/
def Obligations.LinesStayConsistent : Prop :=
  ∀ s t, (∀ l, CountsAgree (s.line.get l) ∧ EngineAgrees s l) → step s = .next t →
    ∀ l, CountsAgree (t.line.get l) ∧ EngineAgrees t l

/-- R6, R15, R132: directory and controllers keep agreeing on what is in flight at every step. -/
def Obligations.FlightStaysConsistent : Prop := ∀ s t, FlightAgrees s → step s = .next t → FlightAgrees t

/-- R4, R5, R9, R33, R34, R39, R75: every entry's fields stay in their ranges at every step. That the fields an entry's
kind does not carry stand at 0, absent or no is the model's choice (log 16), and that a LIVE entry's age is below its
REFRESH follows R39 (log 27). -/
def Obligations.EntriesStayFit : Prop :=
  ∀ s t, (∀ i e, s.entry i = some e → EntryFits e) → step s = .next t → ∀ i e, t.entry i = some e → EntryFits e

/-- R12, R43: a receiving side stays FROZEN exactly while its home line is not usable, at every step. -/
def Obligations.FrozenFollowsUsability : Prop := ∀ s t, FrozenAgrees s → step s = .next t → FrozenAgrees t

/-- R11, R26, R27: every step keeps the duplicate guard. -/
def Obligations.DuplicateGuardStands : Prop := ∀ s t, GuardHolds s → step s = .next t → GuardHolds t

/-- R157, R158, R159, R160: at every step the queue stays the list, without repetition, of the entries with NOTIFY and a
cause. -/
def Obligations.QueueHoldsNotified : Prop := ∀ s t, QueueAgrees s → step s = .next t → QueueAgrees t

/-- R165, R167: at every step a pin outside a window stays asserted exactly while it has demand. -/
def Obligations.PinsFollowDemand : Prop := ∀ s t, PinsAgree s → step s = .next t → PinsAgree t

/-- R20, R174, R171, R179: while nRST is low every block stays at its default, and the held response stays a status byte with
at most 45 result bytes, at every step. -/
def Obligations.PortStaysConsistent : Prop :=
  (∀ s t, ResetHeld s → step s = .next t → ResetHeld t) ∧ (∀ s t, ResponseFits s → step s = .next t → ResponseFits t)

/-- R138 to R142, R147, R149: at every step each cycle unit stays in agreement with its line and its settings. -/
def Obligations.UnitsStayConsistent : Prop :=
  ∀ s t, (∀ l, UnitAgrees s l) → step s = .next t → ∀ l, UnitAgrees t l

/-- R183 to R186, R188: at every step the copies of the settings stay in range, and a portion waits only for a reason. -/
def Obligations.SettingsStayFit : Prop :=
  (∀ s t, CopiesFit s → step s = .next t → CopiesFit t) ∧ (∀ s t, SetWaits s → step s = .next t → SetWaits t)
end

