-- ==== Sys2Proof/Laws/State.lean ====
section
/-! SUPPORT. Laws/State: what each update of a field gives at each field and at each view of the state. -/

namespace Sys2Proof

@[simp] theorem PerLine.get_set_self {α : Type} (p : PerLine α) (l : LineId) (x : α) : (p.set l x).get l = x := by
  cases l <;> rfl

@[simp] theorem PerLine.get_set_other {α : Type} (p : PerLine α) (l : LineId) (x : α) :
    (p.set l x).get l.other = p.get l.other := by
  cases l <;> rfl

theorem PerLine.get_set {α : Type} (p : PerLine α) (l m : LineId) (x : α) :
    (p.set l x).get m = if m = l then x else p.get m := by
  cases l <;> cases m <;> rfl

theorem PerLine.get_set_ne {α : Type} (p : PerLine α) (l m : LineId) (x : α) (h : m ≠ l) :
    (p.set l x).get m = p.get m := by
  rw [PerLine.get_set, if_neg h]

@[simp] theorem PerLine.set_get {α : Type} (p : PerLine α) (l : LineId) : p.set l (p.get l) = p := by
  cases l <;> rfl

@[simp] theorem PerLine.set_set {α : Type} (p : PerLine α) (l : LineId) (x y : α) : (p.set l x).set l y = p.set l y := by
  cases l <;> rfl

/-- Two things held per line are equal when they agree on a line and on the other. -/
theorem PerLine.ext_of {α : Type} {p q : PerLine α} (l : LineId) (h : p.get l = q.get l)
    (g : p.get l.other = q.get l.other) : p = q := by
  cases p; cases q; cases l <;> simp_all [PerLine.get, LineId.other]

@[simp] theorem LineId.other_other (l : LineId) : l.other.other = l := by cases l <;> rfl

@[simp] theorem LineId.other_ne (l : LineId) : l.other ≠ l := by cases l <;> decide

theorem LineId.eq_or_other (l m : LineId) : m = l ∨ m = l.other := by cases l <;> cases m <;> decide

end Sys2Proof

namespace Sys2Proof.Machine

/-! ### Fields -/

@[simp] theorem State.entries_withEntries (s : State) (x : Directory) : (s.withEntries x).entries = x := rfl
@[simp] theorem State.queue_withEntries (s : State) (x : Directory) : (s.withEntries x).queue = s.queue := rfl
@[simp] theorem State.line_withEntries (s : State) (x : Directory) : (s.withEntries x).line = s.line := rfl
@[simp] theorem State.engine_withEntries (s : State) (x : Directory) : (s.withEntries x).engine = s.engine := rfl
@[simp] theorem State.cycle_withEntries (s : State) (x : Directory) : (s.withEntries x).cycle = s.cycle := rfl
@[simp] theorem State.flags_withEntries (s : State) (x : Directory) : (s.withEntries x).flags = s.flags := rfl
@[simp] theorem State.pins_withEntries (s : State) (x : Directory) : (s.withEntries x).pins = s.pins := rfl
@[simp] theorem State.staged_withEntries (s : State) (x : Directory) : (s.withEntries x).staged = s.staged := rfl
@[simp] theorem State.applied_withEntries (s : State) (x : Directory) : (s.withEntries x).applied = s.applied := rfl
@[simp] theorem State.applySet_withEntries (s : State) (x : Directory) : (s.withEntries x).applySet = s.applySet := rfl
@[simp] theorem State.port_withEntries (s : State) (x : Directory) : (s.withEntries x).port = s.port := rfl
@[simp] theorem State.samples_withEntries (s : State) (x : Directory) : (s.withEntries x).samples = s.samples := rfl
@[simp] theorem State.pending_withEntries (s : State) (x : Directory) : (s.withEntries x).pending = s.pending := rfl

@[simp] theorem State.entries_withQueue (s : State) (x : List Index) : (s.withQueue x).entries = s.entries := rfl
@[simp] theorem State.queue_withQueue (s : State) (x : List Index) : (s.withQueue x).queue = x := rfl
@[simp] theorem State.line_withQueue (s : State) (x : List Index) : (s.withQueue x).line = s.line := rfl
@[simp] theorem State.engine_withQueue (s : State) (x : List Index) : (s.withQueue x).engine = s.engine := rfl
@[simp] theorem State.cycle_withQueue (s : State) (x : List Index) : (s.withQueue x).cycle = s.cycle := rfl
@[simp] theorem State.flags_withQueue (s : State) (x : List Index) : (s.withQueue x).flags = s.flags := rfl
@[simp] theorem State.pins_withQueue (s : State) (x : List Index) : (s.withQueue x).pins = s.pins := rfl
@[simp] theorem State.staged_withQueue (s : State) (x : List Index) : (s.withQueue x).staged = s.staged := rfl
@[simp] theorem State.applied_withQueue (s : State) (x : List Index) : (s.withQueue x).applied = s.applied := rfl
@[simp] theorem State.applySet_withQueue (s : State) (x : List Index) : (s.withQueue x).applySet = s.applySet := rfl
@[simp] theorem State.port_withQueue (s : State) (x : List Index) : (s.withQueue x).port = s.port := rfl
@[simp] theorem State.samples_withQueue (s : State) (x : List Index) : (s.withQueue x).samples = s.samples := rfl
@[simp] theorem State.pending_withQueue (s : State) (x : List Index) : (s.withQueue x).pending = s.pending := rfl

@[simp] theorem State.entries_withLine (s : State) (l : LineId) (x : LineCtl) : (s.withLine l x).entries = s.entries := rfl
@[simp] theorem State.queue_withLine (s : State) (l : LineId) (x : LineCtl) : (s.withLine l x).queue = s.queue := rfl
@[simp] theorem State.line_withLine (s : State) (l : LineId) (x : LineCtl) : (s.withLine l x).line = s.line.set l x := rfl
@[simp] theorem State.engine_withLine (s : State) (l : LineId) (x : LineCtl) : (s.withLine l x).engine = s.engine := rfl
@[simp] theorem State.cycle_withLine (s : State) (l : LineId) (x : LineCtl) : (s.withLine l x).cycle = s.cycle := rfl
@[simp] theorem State.flags_withLine (s : State) (l : LineId) (x : LineCtl) : (s.withLine l x).flags = s.flags := rfl
@[simp] theorem State.pins_withLine (s : State) (l : LineId) (x : LineCtl) : (s.withLine l x).pins = s.pins := rfl
@[simp] theorem State.staged_withLine (s : State) (l : LineId) (x : LineCtl) : (s.withLine l x).staged = s.staged := rfl
@[simp] theorem State.applied_withLine (s : State) (l : LineId) (x : LineCtl) : (s.withLine l x).applied = s.applied := rfl
@[simp] theorem State.applySet_withLine (s : State) (l : LineId) (x : LineCtl) : (s.withLine l x).applySet = s.applySet := rfl
@[simp] theorem State.port_withLine (s : State) (l : LineId) (x : LineCtl) : (s.withLine l x).port = s.port := rfl
@[simp] theorem State.samples_withLine (s : State) (l : LineId) (x : LineCtl) : (s.withLine l x).samples = s.samples := rfl
@[simp] theorem State.pending_withLine (s : State) (l : LineId) (x : LineCtl) : (s.withLine l x).pending = s.pending := rfl

@[simp] theorem State.entries_withEngine (s : State) (l : LineId) (x : Phase) : (s.withEngine l x).entries = s.entries := rfl
@[simp] theorem State.queue_withEngine (s : State) (l : LineId) (x : Phase) : (s.withEngine l x).queue = s.queue := rfl
@[simp] theorem State.line_withEngine (s : State) (l : LineId) (x : Phase) : (s.withEngine l x).line = s.line := rfl
@[simp] theorem State.engine_withEngine (s : State) (l : LineId) (x : Phase) : (s.withEngine l x).engine = s.engine.set l x := rfl
@[simp] theorem State.cycle_withEngine (s : State) (l : LineId) (x : Phase) : (s.withEngine l x).cycle = s.cycle := rfl
@[simp] theorem State.flags_withEngine (s : State) (l : LineId) (x : Phase) : (s.withEngine l x).flags = s.flags := rfl
@[simp] theorem State.pins_withEngine (s : State) (l : LineId) (x : Phase) : (s.withEngine l x).pins = s.pins := rfl
@[simp] theorem State.staged_withEngine (s : State) (l : LineId) (x : Phase) : (s.withEngine l x).staged = s.staged := rfl
@[simp] theorem State.applied_withEngine (s : State) (l : LineId) (x : Phase) : (s.withEngine l x).applied = s.applied := rfl
@[simp] theorem State.applySet_withEngine (s : State) (l : LineId) (x : Phase) : (s.withEngine l x).applySet = s.applySet := rfl
@[simp] theorem State.port_withEngine (s : State) (l : LineId) (x : Phase) : (s.withEngine l x).port = s.port := rfl
@[simp] theorem State.samples_withEngine (s : State) (l : LineId) (x : Phase) : (s.withEngine l x).samples = s.samples := rfl
@[simp] theorem State.pending_withEngine (s : State) (l : LineId) (x : Phase) : (s.withEngine l x).pending = s.pending := rfl

@[simp] theorem State.entries_withCycle (s : State) (l : LineId) (x : CycleUnit) : (s.withCycle l x).entries = s.entries := rfl
@[simp] theorem State.queue_withCycle (s : State) (l : LineId) (x : CycleUnit) : (s.withCycle l x).queue = s.queue := rfl
@[simp] theorem State.line_withCycle (s : State) (l : LineId) (x : CycleUnit) : (s.withCycle l x).line = s.line := rfl
@[simp] theorem State.engine_withCycle (s : State) (l : LineId) (x : CycleUnit) : (s.withCycle l x).engine = s.engine := rfl
@[simp] theorem State.cycle_withCycle (s : State) (l : LineId) (x : CycleUnit) : (s.withCycle l x).cycle = s.cycle.set l x := rfl
@[simp] theorem State.flags_withCycle (s : State) (l : LineId) (x : CycleUnit) : (s.withCycle l x).flags = s.flags := rfl
@[simp] theorem State.pins_withCycle (s : State) (l : LineId) (x : CycleUnit) : (s.withCycle l x).pins = s.pins := rfl
@[simp] theorem State.staged_withCycle (s : State) (l : LineId) (x : CycleUnit) : (s.withCycle l x).staged = s.staged := rfl
@[simp] theorem State.applied_withCycle (s : State) (l : LineId) (x : CycleUnit) : (s.withCycle l x).applied = s.applied := rfl
@[simp] theorem State.applySet_withCycle (s : State) (l : LineId) (x : CycleUnit) : (s.withCycle l x).applySet = s.applySet := rfl
@[simp] theorem State.port_withCycle (s : State) (l : LineId) (x : CycleUnit) : (s.withCycle l x).port = s.port := rfl
@[simp] theorem State.samples_withCycle (s : State) (l : LineId) (x : CycleUnit) : (s.withCycle l x).samples = s.samples := rfl
@[simp] theorem State.pending_withCycle (s : State) (l : LineId) (x : CycleUnit) : (s.withCycle l x).pending = s.pending := rfl

@[simp] theorem State.entries_withFlags (s : State) (x : Flags) : (s.withFlags x).entries = s.entries := rfl
@[simp] theorem State.queue_withFlags (s : State) (x : Flags) : (s.withFlags x).queue = s.queue := rfl
@[simp] theorem State.line_withFlags (s : State) (x : Flags) : (s.withFlags x).line = s.line := rfl
@[simp] theorem State.engine_withFlags (s : State) (x : Flags) : (s.withFlags x).engine = s.engine := rfl
@[simp] theorem State.cycle_withFlags (s : State) (x : Flags) : (s.withFlags x).cycle = s.cycle := rfl
@[simp] theorem State.flags_withFlags (s : State) (x : Flags) : (s.withFlags x).flags = x := rfl
@[simp] theorem State.pins_withFlags (s : State) (x : Flags) : (s.withFlags x).pins = s.pins := rfl
@[simp] theorem State.staged_withFlags (s : State) (x : Flags) : (s.withFlags x).staged = s.staged := rfl
@[simp] theorem State.applied_withFlags (s : State) (x : Flags) : (s.withFlags x).applied = s.applied := rfl
@[simp] theorem State.applySet_withFlags (s : State) (x : Flags) : (s.withFlags x).applySet = s.applySet := rfl
@[simp] theorem State.port_withFlags (s : State) (x : Flags) : (s.withFlags x).port = s.port := rfl
@[simp] theorem State.samples_withFlags (s : State) (x : Flags) : (s.withFlags x).samples = s.samples := rfl
@[simp] theorem State.pending_withFlags (s : State) (x : Flags) : (s.withFlags x).pending = s.pending := rfl

@[simp] theorem State.entries_withPins (s : State) (x : Pins) : (s.withPins x).entries = s.entries := rfl
@[simp] theorem State.queue_withPins (s : State) (x : Pins) : (s.withPins x).queue = s.queue := rfl
@[simp] theorem State.line_withPins (s : State) (x : Pins) : (s.withPins x).line = s.line := rfl
@[simp] theorem State.engine_withPins (s : State) (x : Pins) : (s.withPins x).engine = s.engine := rfl
@[simp] theorem State.cycle_withPins (s : State) (x : Pins) : (s.withPins x).cycle = s.cycle := rfl
@[simp] theorem State.flags_withPins (s : State) (x : Pins) : (s.withPins x).flags = s.flags := rfl
@[simp] theorem State.pins_withPins (s : State) (x : Pins) : (s.withPins x).pins = x := rfl
@[simp] theorem State.staged_withPins (s : State) (x : Pins) : (s.withPins x).staged = s.staged := rfl
@[simp] theorem State.applied_withPins (s : State) (x : Pins) : (s.withPins x).applied = s.applied := rfl
@[simp] theorem State.applySet_withPins (s : State) (x : Pins) : (s.withPins x).applySet = s.applySet := rfl
@[simp] theorem State.port_withPins (s : State) (x : Pins) : (s.withPins x).port = s.port := rfl
@[simp] theorem State.samples_withPins (s : State) (x : Pins) : (s.withPins x).samples = s.samples := rfl
@[simp] theorem State.pending_withPins (s : State) (x : Pins) : (s.withPins x).pending = s.pending := rfl

@[simp] theorem State.entries_withStaged (s : State) (x : Settings) : (s.withStaged x).entries = s.entries := rfl
@[simp] theorem State.queue_withStaged (s : State) (x : Settings) : (s.withStaged x).queue = s.queue := rfl
@[simp] theorem State.line_withStaged (s : State) (x : Settings) : (s.withStaged x).line = s.line := rfl
@[simp] theorem State.engine_withStaged (s : State) (x : Settings) : (s.withStaged x).engine = s.engine := rfl
@[simp] theorem State.cycle_withStaged (s : State) (x : Settings) : (s.withStaged x).cycle = s.cycle := rfl
@[simp] theorem State.flags_withStaged (s : State) (x : Settings) : (s.withStaged x).flags = s.flags := rfl
@[simp] theorem State.pins_withStaged (s : State) (x : Settings) : (s.withStaged x).pins = s.pins := rfl
@[simp] theorem State.staged_withStaged (s : State) (x : Settings) : (s.withStaged x).staged = x := rfl
@[simp] theorem State.applied_withStaged (s : State) (x : Settings) : (s.withStaged x).applied = s.applied := rfl
@[simp] theorem State.applySet_withStaged (s : State) (x : Settings) : (s.withStaged x).applySet = s.applySet := rfl
@[simp] theorem State.port_withStaged (s : State) (x : Settings) : (s.withStaged x).port = s.port := rfl
@[simp] theorem State.samples_withStaged (s : State) (x : Settings) : (s.withStaged x).samples = s.samples := rfl
@[simp] theorem State.pending_withStaged (s : State) (x : Settings) : (s.withStaged x).pending = s.pending := rfl

@[simp] theorem State.entries_withApplied (s : State) (x : Settings) : (s.withApplied x).entries = s.entries := rfl
@[simp] theorem State.queue_withApplied (s : State) (x : Settings) : (s.withApplied x).queue = s.queue := rfl
@[simp] theorem State.line_withApplied (s : State) (x : Settings) : (s.withApplied x).line = s.line := rfl
@[simp] theorem State.engine_withApplied (s : State) (x : Settings) : (s.withApplied x).engine = s.engine := rfl
@[simp] theorem State.cycle_withApplied (s : State) (x : Settings) : (s.withApplied x).cycle = s.cycle := rfl
@[simp] theorem State.flags_withApplied (s : State) (x : Settings) : (s.withApplied x).flags = s.flags := rfl
@[simp] theorem State.pins_withApplied (s : State) (x : Settings) : (s.withApplied x).pins = s.pins := rfl
@[simp] theorem State.staged_withApplied (s : State) (x : Settings) : (s.withApplied x).staged = s.staged := rfl
@[simp] theorem State.applied_withApplied (s : State) (x : Settings) : (s.withApplied x).applied = x := rfl
@[simp] theorem State.applySet_withApplied (s : State) (x : Settings) : (s.withApplied x).applySet = s.applySet := rfl
@[simp] theorem State.port_withApplied (s : State) (x : Settings) : (s.withApplied x).port = s.port := rfl
@[simp] theorem State.samples_withApplied (s : State) (x : Settings) : (s.withApplied x).samples = s.samples := rfl
@[simp] theorem State.pending_withApplied (s : State) (x : Settings) : (s.withApplied x).pending = s.pending := rfl

@[simp] theorem State.entries_withApplySet (s : State) (x : Option ApplySet) : (s.withApplySet x).entries = s.entries := rfl
@[simp] theorem State.queue_withApplySet (s : State) (x : Option ApplySet) : (s.withApplySet x).queue = s.queue := rfl
@[simp] theorem State.line_withApplySet (s : State) (x : Option ApplySet) : (s.withApplySet x).line = s.line := rfl
@[simp] theorem State.engine_withApplySet (s : State) (x : Option ApplySet) : (s.withApplySet x).engine = s.engine := rfl
@[simp] theorem State.cycle_withApplySet (s : State) (x : Option ApplySet) : (s.withApplySet x).cycle = s.cycle := rfl
@[simp] theorem State.flags_withApplySet (s : State) (x : Option ApplySet) : (s.withApplySet x).flags = s.flags := rfl
@[simp] theorem State.pins_withApplySet (s : State) (x : Option ApplySet) : (s.withApplySet x).pins = s.pins := rfl
@[simp] theorem State.staged_withApplySet (s : State) (x : Option ApplySet) : (s.withApplySet x).staged = s.staged := rfl
@[simp] theorem State.applied_withApplySet (s : State) (x : Option ApplySet) : (s.withApplySet x).applied = s.applied := rfl
@[simp] theorem State.applySet_withApplySet (s : State) (x : Option ApplySet) : (s.withApplySet x).applySet = x := rfl
@[simp] theorem State.port_withApplySet (s : State) (x : Option ApplySet) : (s.withApplySet x).port = s.port := rfl
@[simp] theorem State.samples_withApplySet (s : State) (x : Option ApplySet) : (s.withApplySet x).samples = s.samples := rfl
@[simp] theorem State.pending_withApplySet (s : State) (x : Option ApplySet) : (s.withApplySet x).pending = s.pending := rfl

@[simp] theorem State.entries_withPort (s : State) (x : HostPort) : (s.withPort x).entries = s.entries := rfl
@[simp] theorem State.queue_withPort (s : State) (x : HostPort) : (s.withPort x).queue = s.queue := rfl
@[simp] theorem State.line_withPort (s : State) (x : HostPort) : (s.withPort x).line = s.line := rfl
@[simp] theorem State.engine_withPort (s : State) (x : HostPort) : (s.withPort x).engine = s.engine := rfl
@[simp] theorem State.cycle_withPort (s : State) (x : HostPort) : (s.withPort x).cycle = s.cycle := rfl
@[simp] theorem State.flags_withPort (s : State) (x : HostPort) : (s.withPort x).flags = s.flags := rfl
@[simp] theorem State.pins_withPort (s : State) (x : HostPort) : (s.withPort x).pins = s.pins := rfl
@[simp] theorem State.staged_withPort (s : State) (x : HostPort) : (s.withPort x).staged = s.staged := rfl
@[simp] theorem State.applied_withPort (s : State) (x : HostPort) : (s.withPort x).applied = s.applied := rfl
@[simp] theorem State.applySet_withPort (s : State) (x : HostPort) : (s.withPort x).applySet = s.applySet := rfl
@[simp] theorem State.port_withPort (s : State) (x : HostPort) : (s.withPort x).port = x := rfl
@[simp] theorem State.samples_withPort (s : State) (x : HostPort) : (s.withPort x).samples = s.samples := rfl
@[simp] theorem State.pending_withPort (s : State) (x : HostPort) : (s.withPort x).pending = s.pending := rfl

@[simp] theorem State.entries_withSamples (s : State) (x : List LineBit) : (s.withSamples x).entries = s.entries := rfl
@[simp] theorem State.queue_withSamples (s : State) (x : List LineBit) : (s.withSamples x).queue = s.queue := rfl
@[simp] theorem State.line_withSamples (s : State) (x : List LineBit) : (s.withSamples x).line = s.line := rfl
@[simp] theorem State.engine_withSamples (s : State) (x : List LineBit) : (s.withSamples x).engine = s.engine := rfl
@[simp] theorem State.cycle_withSamples (s : State) (x : List LineBit) : (s.withSamples x).cycle = s.cycle := rfl
@[simp] theorem State.flags_withSamples (s : State) (x : List LineBit) : (s.withSamples x).flags = s.flags := rfl
@[simp] theorem State.pins_withSamples (s : State) (x : List LineBit) : (s.withSamples x).pins = s.pins := rfl
@[simp] theorem State.staged_withSamples (s : State) (x : List LineBit) : (s.withSamples x).staged = s.staged := rfl
@[simp] theorem State.applied_withSamples (s : State) (x : List LineBit) : (s.withSamples x).applied = s.applied := rfl
@[simp] theorem State.applySet_withSamples (s : State) (x : List LineBit) : (s.withSamples x).applySet = s.applySet := rfl
@[simp] theorem State.port_withSamples (s : State) (x : List LineBit) : (s.withSamples x).port = s.port := rfl
@[simp] theorem State.samples_withSamples (s : State) (x : List LineBit) : (s.withSamples x).samples = x := rfl
@[simp] theorem State.pending_withSamples (s : State) (x : List LineBit) : (s.withSamples x).pending = s.pending := rfl

@[simp] theorem State.entries_withPending (s : State) (x : List Instr) : (s.withPending x).entries = s.entries := rfl
@[simp] theorem State.queue_withPending (s : State) (x : List Instr) : (s.withPending x).queue = s.queue := rfl
@[simp] theorem State.line_withPending (s : State) (x : List Instr) : (s.withPending x).line = s.line := rfl
@[simp] theorem State.engine_withPending (s : State) (x : List Instr) : (s.withPending x).engine = s.engine := rfl
@[simp] theorem State.cycle_withPending (s : State) (x : List Instr) : (s.withPending x).cycle = s.cycle := rfl
@[simp] theorem State.flags_withPending (s : State) (x : List Instr) : (s.withPending x).flags = s.flags := rfl
@[simp] theorem State.pins_withPending (s : State) (x : List Instr) : (s.withPending x).pins = s.pins := rfl
@[simp] theorem State.staged_withPending (s : State) (x : List Instr) : (s.withPending x).staged = s.staged := rfl
@[simp] theorem State.applied_withPending (s : State) (x : List Instr) : (s.withPending x).applied = s.applied := rfl
@[simp] theorem State.applySet_withPending (s : State) (x : List Instr) : (s.withPending x).applySet = s.applySet := rfl
@[simp] theorem State.port_withPending (s : State) (x : List Instr) : (s.withPending x).port = s.port := rfl
@[simp] theorem State.samples_withPending (s : State) (x : List Instr) : (s.withPending x).samples = s.samples := rfl
@[simp] theorem State.pending_withPending (s : State) (x : List Instr) : (s.withPending x).pending = x := rfl

/-! ### Views -/

@[simp] theorem State.entry_withQueue (s : State) (x : List Index) (i : Index) : (s.withQueue x).entry i = s.entry i := rfl
@[simp] theorem State.entry_withLine (s : State) (l : LineId) (x : LineCtl) (i : Index) : (s.withLine l x).entry i = s.entry i := rfl
@[simp] theorem State.entry_withEngine (s : State) (l : LineId) (x : Phase) (i : Index) : (s.withEngine l x).entry i = s.entry i := rfl
@[simp] theorem State.entry_withCycle (s : State) (l : LineId) (x : CycleUnit) (i : Index) : (s.withCycle l x).entry i = s.entry i := rfl
@[simp] theorem State.entry_withFlags (s : State) (x : Flags) (i : Index) : (s.withFlags x).entry i = s.entry i := rfl
@[simp] theorem State.entry_withPins (s : State) (x : Pins) (i : Index) : (s.withPins x).entry i = s.entry i := rfl
@[simp] theorem State.entry_withStaged (s : State) (x : Settings) (i : Index) : (s.withStaged x).entry i = s.entry i := rfl
@[simp] theorem State.entry_withApplied (s : State) (x : Settings) (i : Index) : (s.withApplied x).entry i = s.entry i := rfl
@[simp] theorem State.entry_withApplySet (s : State) (x : Option ApplySet) (i : Index) : (s.withApplySet x).entry i = s.entry i := rfl
@[simp] theorem State.entry_withPort (s : State) (x : HostPort) (i : Index) : (s.withPort x).entry i = s.entry i := rfl
@[simp] theorem State.entry_withSamples (s : State) (x : List LineBit) (i : Index) : (s.withSamples x).entry i = s.entry i := rfl
@[simp] theorem State.entry_withPending (s : State) (x : List Instr) (i : Index) : (s.withPending x).entry i = s.entry i := rfl

@[simp] theorem State.home_withEntries (s : State) (x : Directory) (i : Index) : (s.withEntries x).home i = s.home i := rfl
@[simp] theorem State.home_withQueue (s : State) (x : List Index) (i : Index) : (s.withQueue x).home i = s.home i := rfl
@[simp] theorem State.home_withLine (s : State) (l : LineId) (x : LineCtl) (i : Index) : (s.withLine l x).home i = s.home i := rfl
@[simp] theorem State.home_withEngine (s : State) (l : LineId) (x : Phase) (i : Index) : (s.withEngine l x).home i = s.home i := rfl
@[simp] theorem State.home_withCycle (s : State) (l : LineId) (x : CycleUnit) (i : Index) : (s.withCycle l x).home i = s.home i := rfl
@[simp] theorem State.home_withFlags (s : State) (x : Flags) (i : Index) : (s.withFlags x).home i = s.home i := rfl
@[simp] theorem State.home_withPins (s : State) (x : Pins) (i : Index) : (s.withPins x).home i = s.home i := rfl
@[simp] theorem State.home_withStaged (s : State) (x : Settings) (i : Index) : (s.withStaged x).home i = s.home i := rfl
@[simp] theorem State.home_withApplySet (s : State) (x : Option ApplySet) (i : Index) : (s.withApplySet x).home i = s.home i := rfl
@[simp] theorem State.home_withPort (s : State) (x : HostPort) (i : Index) : (s.withPort x).home i = s.home i := rfl
@[simp] theorem State.home_withSamples (s : State) (x : List LineBit) (i : Index) : (s.withSamples x).home i = s.home i := rfl
@[simp] theorem State.home_withPending (s : State) (x : List Instr) (i : Index) : (s.withPending x).home i = s.home i := rfl

@[simp] theorem State.mode_withEntries (s : State) (x : Directory) (m : LineId) : (s.withEntries x).mode m = s.mode m := rfl
@[simp] theorem State.mode_withQueue (s : State) (x : List Index) (m : LineId) : (s.withQueue x).mode m = s.mode m := rfl
@[simp] theorem State.mode_withLine (s : State) (l : LineId) (x : LineCtl) (m : LineId) : (s.withLine l x).mode m = s.mode m := rfl
@[simp] theorem State.mode_withEngine (s : State) (l : LineId) (x : Phase) (m : LineId) : (s.withEngine l x).mode m = s.mode m := rfl
@[simp] theorem State.mode_withCycle (s : State) (l : LineId) (x : CycleUnit) (m : LineId) : (s.withCycle l x).mode m = s.mode m := rfl
@[simp] theorem State.mode_withFlags (s : State) (x : Flags) (m : LineId) : (s.withFlags x).mode m = s.mode m := rfl
@[simp] theorem State.mode_withPins (s : State) (x : Pins) (m : LineId) : (s.withPins x).mode m = s.mode m := rfl
@[simp] theorem State.mode_withStaged (s : State) (x : Settings) (m : LineId) : (s.withStaged x).mode m = s.mode m := rfl
@[simp] theorem State.mode_withApplySet (s : State) (x : Option ApplySet) (m : LineId) : (s.withApplySet x).mode m = s.mode m := rfl
@[simp] theorem State.mode_withPort (s : State) (x : HostPort) (m : LineId) : (s.withPort x).mode m = s.mode m := rfl
@[simp] theorem State.mode_withSamples (s : State) (x : List LineBit) (m : LineId) : (s.withSamples x).mode m = s.mode m := rfl
@[simp] theorem State.mode_withPending (s : State) (x : List Instr) (m : LineId) : (s.withPending x).mode m = s.mode m := rfl

@[simp] theorem State.participates_withEntries (s : State) (x : Directory) (m : LineId) : (s.withEntries x).participates m = s.participates m := rfl
@[simp] theorem State.participates_withQueue (s : State) (x : List Index) (m : LineId) : (s.withQueue x).participates m = s.participates m := rfl
@[simp] theorem State.participates_withEngine (s : State) (l : LineId) (x : Phase) (m : LineId) : (s.withEngine l x).participates m = s.participates m := rfl
@[simp] theorem State.participates_withCycle (s : State) (l : LineId) (x : CycleUnit) (m : LineId) : (s.withCycle l x).participates m = s.participates m := rfl
@[simp] theorem State.participates_withFlags (s : State) (x : Flags) (m : LineId) : (s.withFlags x).participates m = s.participates m := rfl
@[simp] theorem State.participates_withPins (s : State) (x : Pins) (m : LineId) : (s.withPins x).participates m = s.participates m := rfl
@[simp] theorem State.participates_withStaged (s : State) (x : Settings) (m : LineId) : (s.withStaged x).participates m = s.participates m := rfl
@[simp] theorem State.participates_withApplied (s : State) (x : Settings) (m : LineId) : (s.withApplied x).participates m = s.participates m := rfl
@[simp] theorem State.participates_withApplySet (s : State) (x : Option ApplySet) (m : LineId) : (s.withApplySet x).participates m = s.participates m := rfl
@[simp] theorem State.participates_withPort (s : State) (x : HostPort) (m : LineId) : (s.withPort x).participates m = s.participates m := rfl
@[simp] theorem State.participates_withSamples (s : State) (x : List LineBit) (m : LineId) : (s.withSamples x).participates m = s.participates m := rfl
@[simp] theorem State.participates_withPending (s : State) (x : List Instr) (m : LineId) : (s.withPending x).participates m = s.participates m := rfl

@[simp] theorem State.usable_withEntries (s : State) (x : Directory) (m : LineId) : (s.withEntries x).usable m = s.usable m := rfl
@[simp] theorem State.usable_withQueue (s : State) (x : List Index) (m : LineId) : (s.withQueue x).usable m = s.usable m := rfl
@[simp] theorem State.usable_withEngine (s : State) (l : LineId) (x : Phase) (m : LineId) : (s.withEngine l x).usable m = s.usable m := rfl
@[simp] theorem State.usable_withFlags (s : State) (x : Flags) (m : LineId) : (s.withFlags x).usable m = s.usable m := rfl
@[simp] theorem State.usable_withPins (s : State) (x : Pins) (m : LineId) : (s.withPins x).usable m = s.usable m := rfl
@[simp] theorem State.usable_withStaged (s : State) (x : Settings) (m : LineId) : (s.withStaged x).usable m = s.usable m := rfl
@[simp] theorem State.usable_withApplySet (s : State) (x : Option ApplySet) (m : LineId) : (s.withApplySet x).usable m = s.usable m := rfl
@[simp] theorem State.usable_withPort (s : State) (x : HostPort) (m : LineId) : (s.withPort x).usable m = s.usable m := rfl
@[simp] theorem State.usable_withSamples (s : State) (x : List LineBit) (m : LineId) : (s.withSamples x).usable m = s.usable m := rfl
@[simp] theorem State.usable_withPending (s : State) (x : List Instr) (m : LineId) : (s.withPending x).usable m = s.usable m := rfl

@[simp] theorem State.stampNow_withEntries (s : State) (x : Directory) (m : LineId) : (s.withEntries x).stampNow m = s.stampNow m := rfl
@[simp] theorem State.stampNow_withQueue (s : State) (x : List Index) (m : LineId) : (s.withQueue x).stampNow m = s.stampNow m := rfl
@[simp] theorem State.stampNow_withLine (s : State) (l : LineId) (x : LineCtl) (m : LineId) : (s.withLine l x).stampNow m = s.stampNow m := rfl
@[simp] theorem State.stampNow_withEngine (s : State) (l : LineId) (x : Phase) (m : LineId) : (s.withEngine l x).stampNow m = s.stampNow m := rfl
@[simp] theorem State.stampNow_withFlags (s : State) (x : Flags) (m : LineId) : (s.withFlags x).stampNow m = s.stampNow m := rfl
@[simp] theorem State.stampNow_withPins (s : State) (x : Pins) (m : LineId) : (s.withPins x).stampNow m = s.stampNow m := rfl
@[simp] theorem State.stampNow_withStaged (s : State) (x : Settings) (m : LineId) : (s.withStaged x).stampNow m = s.stampNow m := rfl
@[simp] theorem State.stampNow_withApplySet (s : State) (x : Option ApplySet) (m : LineId) : (s.withApplySet x).stampNow m = s.stampNow m := rfl
@[simp] theorem State.stampNow_withPort (s : State) (x : HostPort) (m : LineId) : (s.withPort x).stampNow m = s.stampNow m := rfl
@[simp] theorem State.stampNow_withSamples (s : State) (x : List LineBit) (m : LineId) : (s.withSamples x).stampNow m = s.stampNow m := rfl
@[simp] theorem State.stampNow_withPending (s : State) (x : List Instr) (m : LineId) : (s.withPending x).stampNow m = s.stampNow m := rfl

@[simp] theorem State.flag_withEntries (s : State) (x : Directory) (f : EventFlag) : (s.withEntries x).flag f = s.flag f := rfl
@[simp] theorem State.flag_withLine (s : State) (l : LineId) (x : LineCtl) (f : EventFlag) : (s.withLine l x).flag f = s.flag f := rfl
@[simp] theorem State.flag_withEngine (s : State) (l : LineId) (x : Phase) (f : EventFlag) : (s.withEngine l x).flag f = s.flag f := rfl
@[simp] theorem State.flag_withCycle (s : State) (l : LineId) (x : CycleUnit) (f : EventFlag) : (s.withCycle l x).flag f = s.flag f := rfl
@[simp] theorem State.flag_withPins (s : State) (x : Pins) (f : EventFlag) : (s.withPins x).flag f = s.flag f := rfl
@[simp] theorem State.flag_withStaged (s : State) (x : Settings) (f : EventFlag) : (s.withStaged x).flag f = s.flag f := rfl
@[simp] theorem State.flag_withApplied (s : State) (x : Settings) (f : EventFlag) : (s.withApplied x).flag f = s.flag f := rfl
@[simp] theorem State.flag_withApplySet (s : State) (x : Option ApplySet) (f : EventFlag) : (s.withApplySet x).flag f = s.flag f := rfl
@[simp] theorem State.flag_withPort (s : State) (x : HostPort) (f : EventFlag) : (s.withPort x).flag f = s.flag f := rfl
@[simp] theorem State.flag_withSamples (s : State) (x : List LineBit) (f : EventFlag) : (s.withSamples x).flag f = s.flag f := rfl
@[simp] theorem State.flag_withPending (s : State) (x : List Instr) (f : EventFlag) : (s.withPending x).flag f = s.flag f := rfl

@[simp] theorem State.demand_withEntries (s : State) (x : Directory) (p : PinId) : (s.withEntries x).demand p = s.demand p := rfl
@[simp] theorem State.demand_withLine (s : State) (l : LineId) (x : LineCtl) (p : PinId) : (s.withLine l x).demand p = s.demand p := rfl
@[simp] theorem State.demand_withEngine (s : State) (l : LineId) (x : Phase) (p : PinId) : (s.withEngine l x).demand p = s.demand p := rfl
@[simp] theorem State.demand_withCycle (s : State) (l : LineId) (x : CycleUnit) (p : PinId) : (s.withCycle l x).demand p = s.demand p := rfl
@[simp] theorem State.demand_withPins (s : State) (x : Pins) (p : PinId) : (s.withPins x).demand p = s.demand p := rfl
@[simp] theorem State.demand_withStaged (s : State) (x : Settings) (p : PinId) : (s.withStaged x).demand p = s.demand p := rfl
@[simp] theorem State.demand_withApplySet (s : State) (x : Option ApplySet) (p : PinId) : (s.withApplySet x).demand p = s.demand p := rfl
@[simp] theorem State.demand_withPort (s : State) (x : HostPort) (p : PinId) : (s.withPort x).demand p = s.demand p := rfl
@[simp] theorem State.demand_withSamples (s : State) (x : List LineBit) (p : PinId) : (s.withSamples x).demand p = s.demand p := rfl
@[simp] theorem State.demand_withPending (s : State) (x : List Instr) (p : PinId) : (s.withPending x).demand p = s.demand p := rfl

@[simp] theorem State.isDetached_withEntries (s : State) (x : Directory) (m : LineId) : (s.withEntries x).isDetached m = s.isDetached m := rfl
@[simp] theorem State.isDetached_withQueue (s : State) (x : List Index) (m : LineId) : (s.withQueue x).isDetached m = s.isDetached m := rfl
@[simp] theorem State.isDetached_withEngine (s : State) (l : LineId) (x : Phase) (m : LineId) : (s.withEngine l x).isDetached m = s.isDetached m := rfl
@[simp] theorem State.isDetached_withCycle (s : State) (l : LineId) (x : CycleUnit) (m : LineId) : (s.withCycle l x).isDetached m = s.isDetached m := rfl
@[simp] theorem State.isDetached_withFlags (s : State) (x : Flags) (m : LineId) : (s.withFlags x).isDetached m = s.isDetached m := rfl
@[simp] theorem State.isDetached_withPins (s : State) (x : Pins) (m : LineId) : (s.withPins x).isDetached m = s.isDetached m := rfl
@[simp] theorem State.isDetached_withStaged (s : State) (x : Settings) (m : LineId) : (s.withStaged x).isDetached m = s.isDetached m := rfl
@[simp] theorem State.isDetached_withApplied (s : State) (x : Settings) (m : LineId) : (s.withApplied x).isDetached m = s.isDetached m := rfl
@[simp] theorem State.isDetached_withApplySet (s : State) (x : Option ApplySet) (m : LineId) : (s.withApplySet x).isDetached m = s.isDetached m := rfl
@[simp] theorem State.isDetached_withPort (s : State) (x : HostPort) (m : LineId) : (s.withPort x).isDetached m = s.isDetached m := rfl
@[simp] theorem State.isDetached_withSamples (s : State) (x : List LineBit) (m : LineId) : (s.withSamples x).isDetached m = s.isDetached m := rfl
@[simp] theorem State.isDetached_withPending (s : State) (x : List Instr) (m : LineId) : (s.withPending x).isDetached m = s.isDetached m := rfl

@[simp] theorem State.canReceive_withEntries (s : State) (x : Directory) (m : LineId) : (s.withEntries x).canReceive m = s.canReceive m := rfl
@[simp] theorem State.canReceive_withQueue (s : State) (x : List Index) (m : LineId) : (s.withQueue x).canReceive m = s.canReceive m := rfl
@[simp] theorem State.canReceive_withCycle (s : State) (l : LineId) (x : CycleUnit) (m : LineId) : (s.withCycle l x).canReceive m = s.canReceive m := rfl
@[simp] theorem State.canReceive_withFlags (s : State) (x : Flags) (m : LineId) : (s.withFlags x).canReceive m = s.canReceive m := rfl
@[simp] theorem State.canReceive_withPins (s : State) (x : Pins) (m : LineId) : (s.withPins x).canReceive m = s.canReceive m := rfl
@[simp] theorem State.canReceive_withStaged (s : State) (x : Settings) (m : LineId) : (s.withStaged x).canReceive m = s.canReceive m := rfl
@[simp] theorem State.canReceive_withApplied (s : State) (x : Settings) (m : LineId) : (s.withApplied x).canReceive m = s.canReceive m := rfl
@[simp] theorem State.canReceive_withApplySet (s : State) (x : Option ApplySet) (m : LineId) : (s.withApplySet x).canReceive m = s.canReceive m := rfl
@[simp] theorem State.canReceive_withPort (s : State) (x : HostPort) (m : LineId) : (s.withPort x).canReceive m = s.canReceive m := rfl
@[simp] theorem State.canReceive_withSamples (s : State) (x : List LineBit) (m : LineId) : (s.withSamples x).canReceive m = s.canReceive m := rfl
@[simp] theorem State.canReceive_withPending (s : State) (x : List Instr) (m : LineId) : (s.withPending x).canReceive m = s.canReceive m := rfl

@[simp] theorem State.sendingAttempt_withEntries (s : State) (x : Directory) (m : LineId) : (s.withEntries x).sendingAttempt m = s.sendingAttempt m := rfl
@[simp] theorem State.sendingAttempt_withQueue (s : State) (x : List Index) (m : LineId) : (s.withQueue x).sendingAttempt m = s.sendingAttempt m := rfl
@[simp] theorem State.sendingAttempt_withCycle (s : State) (l : LineId) (x : CycleUnit) (m : LineId) : (s.withCycle l x).sendingAttempt m = s.sendingAttempt m := rfl
@[simp] theorem State.sendingAttempt_withFlags (s : State) (x : Flags) (m : LineId) : (s.withFlags x).sendingAttempt m = s.sendingAttempt m := rfl
@[simp] theorem State.sendingAttempt_withPins (s : State) (x : Pins) (m : LineId) : (s.withPins x).sendingAttempt m = s.sendingAttempt m := rfl
@[simp] theorem State.sendingAttempt_withStaged (s : State) (x : Settings) (m : LineId) : (s.withStaged x).sendingAttempt m = s.sendingAttempt m := rfl
@[simp] theorem State.sendingAttempt_withApplied (s : State) (x : Settings) (m : LineId) : (s.withApplied x).sendingAttempt m = s.sendingAttempt m := rfl
@[simp] theorem State.sendingAttempt_withApplySet (s : State) (x : Option ApplySet) (m : LineId) : (s.withApplySet x).sendingAttempt m = s.sendingAttempt m := rfl
@[simp] theorem State.sendingAttempt_withPort (s : State) (x : HostPort) (m : LineId) : (s.withPort x).sendingAttempt m = s.sendingAttempt m := rfl
@[simp] theorem State.sendingAttempt_withSamples (s : State) (x : List LineBit) (m : LineId) : (s.withSamples x).sendingAttempt m = s.sendingAttempt m := rfl
@[simp] theorem State.sendingAttempt_withPending (s : State) (x : List Instr) (m : LineId) : (s.withPending x).sendingAttempt m = s.sendingAttempt m := rfl

@[simp] theorem State.canSelect_withEntries (s : State) (x : Directory) (m : LineId) : (s.withEntries x).canSelect m = s.canSelect m := rfl
@[simp] theorem State.canSelect_withQueue (s : State) (x : List Index) (m : LineId) : (s.withQueue x).canSelect m = s.canSelect m := rfl
@[simp] theorem State.canSelect_withCycle (s : State) (l : LineId) (x : CycleUnit) (m : LineId) : (s.withCycle l x).canSelect m = s.canSelect m := rfl
@[simp] theorem State.canSelect_withFlags (s : State) (x : Flags) (m : LineId) : (s.withFlags x).canSelect m = s.canSelect m := rfl
@[simp] theorem State.canSelect_withPins (s : State) (x : Pins) (m : LineId) : (s.withPins x).canSelect m = s.canSelect m := rfl
@[simp] theorem State.canSelect_withStaged (s : State) (x : Settings) (m : LineId) : (s.withStaged x).canSelect m = s.canSelect m := rfl
@[simp] theorem State.canSelect_withApplied (s : State) (x : Settings) (m : LineId) : (s.withApplied x).canSelect m = s.canSelect m := rfl
@[simp] theorem State.canSelect_withApplySet (s : State) (x : Option ApplySet) (m : LineId) : (s.withApplySet x).canSelect m = s.canSelect m := rfl
@[simp] theorem State.canSelect_withPort (s : State) (x : HostPort) (m : LineId) : (s.withPort x).canSelect m = s.canSelect m := rfl
@[simp] theorem State.canSelect_withSamples (s : State) (x : List LineBit) (m : LineId) : (s.withSamples x).canSelect m = s.canSelect m := rfl
@[simp] theorem State.canSelect_withPending (s : State) (x : List Instr) (m : LineId) : (s.withPending x).canSelect m = s.canSelect m := rfl

end Sys2Proof.Machine
end

