-- ==== Sys2Proof/Laws/Directory.lean ====
section
/-! SUPPORT. Laws/Directory: what the operations on positions, causes and the change queue give. -/

namespace Sys2Proof.Machine

/-! ### Positions -/

theorem Directory.get_set (d : Directory) (i j : Index) (e : Option Entry) :
    (d.set i e).get j = if j = i then e else d.get j := by
  unfold Directory.get Directory.set
  simp only [List.getElem_set]
  by_cases h : j = i
  · subst h; simp
  · have : i.val ≠ j.val := fun x => h (Fin.ext x.symm)
    simp [h, this]

@[simp] theorem Directory.get_set_self (d : Directory) (i : Index) (e : Option Entry) : (d.set i e).get i = e := by
  rw [Directory.get_set, if_pos rfl]

theorem Directory.get_set_ne (d : Directory) (i j : Index) (e : Option Entry) (h : j ≠ i) :
    (d.set i e).get j = d.get j := by
  rw [Directory.get_set, if_neg h]

@[simp] theorem Directory.get_map (d : Directory) (f : Index → Entry → Entry) (i : Index) :
    (d.map f).get i = (d.get i).map (f i) := by
  have h : (d.map f).slots = indices.map fun i => (d.get i).map (f i) := rfl
  unfold Directory.get at *
  simp [h]

@[simp] theorem Directory.get_empty (i : Index) : Directory.empty.get i = none := by
  unfold Directory.get Directory.empty
  simp only [List.getElem_replicate]

theorem Directory.ext_get {d d' : Directory} (h : ∀ i, d.get i = d'.get i) : d = d' := by
  cases d with | mk x hx => cases d' with | mk y hy =>
  congr
  apply List.ext_getElem (by rw [hx, hy])
  intro n hn _
  exact h ⟨n, by rw [← hx]; exact hn⟩

/-- An update that puts back what stands there changes nothing. -/
theorem Directory.set_get (d : Directory) (i : Index) : d.set i (d.get i) = d := by
  apply Directory.ext_get
  intro j
  rw [Directory.get_set]
  by_cases h : j = i
  · subst h; simp
  · rw [if_neg h]

theorem Directory.mem_occupied (d : Directory) (i : Index) (e : Entry) : (i, e) ∈ d.occupied ↔ d.get i = some e := by
  unfold Directory.occupied
  simp only [List.mem_filterMap, List.mem_finRange, true_and, Option.map_eq_some_iff, Prod.mk.injEq]
  constructor
  · rintro ⟨j, x, h, rfl, rfl⟩; exact h
  · intro h; exact ⟨i, e, h, rfl, rfl⟩

/-- The occupied entries of an image are the images of the occupied entries. -/
theorem Directory.occupied_map (d : Directory) (f : Index → Entry → Entry) :
    (d.map f).occupied = d.occupied.map fun x => (x.1, f x.1 x.2) := by
  unfold Directory.occupied
  rw [List.map_filterMap]
  congr 1; funext i
  rw [Directory.get_map]
  cases d.get i <;> rfl

/-- R26: the guard sees only the sides of the entries. -/
theorem guardHolds_map (m : BankMap) (d : Directory) (f : Index → Entry → Entry)
    (hr : ∀ i e, receivingSide m i (f i e) = receivingSide m i e)
    (hp : ∀ i e, publishingSide m i (f i e) = publishingSide m i e) : guardHolds m (d.map f) = guardHolds m d := by
  unfold guardHolds
  rw [Directory.occupied_map]
  generalize d.occupied = xs
  induction xs with
  | nil => rfl
  | cons x rest ih =>
    simp only [List.map_cons, noClash, List.all_map, ih]
    congr 2
    funext y
    simp [clash, hr, hp]

theorem State.entry_setEntry (s : State) (i j : Index) (e : Entry) :
    (s.setEntry i e).entry j = if j = i then some e else s.entry j := Directory.get_set s.entries i j (some e)

theorem State.entry_emptyEntry (s : State) (i j : Index) :
    (s.emptyEntry i).entry j = if j = i then none else s.entry j := Directory.get_set s.entries i j none

/-! ### Causes -/

@[simp] theorem Reaction.result_unchanged (e : Entry) : e.unchanged.result e = e := by
  unfold Reaction.result Entry.unchanged
  split <;> rfl

@[simp] theorem Reaction.notifies_unchanged (e : Entry) : e.unchanged.notifies e = false := by
  simp [Reaction.notifies, Entry.unchanged]

theorem Reaction.result_live (r : Reaction) (e : Entry) (h : e.state ≠ .retiring) :
    r.result e = { r.entry with causes := r.causes.foldl CauseSet.raise r.entry.causes } := by
  unfold Reaction.result; rw [if_neg h]

theorem Reaction.result_retiring (r : Reaction) (e : Entry) (h : e.state = .retiring) : r.result e = r.entry := by
  unfold Reaction.result; rw [if_pos h]

/-! ### Events at the directory -/

@[simp] theorem State.entry_react (s : State) (f : Index → Entry → Reaction) (i : Index) :
    (s.react f).entry i = (s.entry i).map fun e => (f i e).result e := by
  simp [State.react, State.entry]

theorem State.queue_react (s : State) (f : Index → Entry → Reaction) :
    (s.react f).queue = s.queue ++ s.newlyQueued f := rfl

/-- An event that leaves every entry as it is leaves directory and queue as they are. -/
theorem State.react_unchanged (s : State) (f : Index → Entry → Reaction)
    (h : ∀ i e, s.entry i = some e → f i e = e.unchanged) : s.react f = s := by
  have hq : s.newlyQueued f = [] := by
    unfold State.newlyQueued
    rw [List.filter_eq_nil_iff]
    intro i _
    cases he : s.entry i with
    | none => simp
    | some e => simp [h i e he]
  have hd : s.entries.map (fun i e => (f i e).result e) = s.entries := by
    apply Directory.ext_get
    intro i
    rw [Directory.get_map]
    cases he : s.entries.get i with
    | none => rfl
    | some e => simp [h i e he]
  unfold State.react
  rw [hd, hq, List.append_nil]
  rfl

/-- The queue after an event, when which entries gain a cause is known. -/
theorem State.newlyQueued_eq (s : State) (f : Index → Entry → Reaction) (new : Index → Bool)
    (h : ∀ i, new i = match s.entry i with
      | some e => (f i e).notifies e
      | none => false) :
    s.newlyQueued f = (List.finRange 64).filter fun i => new i && !s.queue.contains i := by
  unfold State.newlyQueued
  apply List.filter_congr
  intro i _
  rw [h i]
  cases s.entry i <;> simp

end Sys2Proof.Machine
end

