-- ==== Sys2Proof/Laws/Events.lean ====
section
/-! SUPPORT. Laws/Events: what an event at the directory, a raise and a judgement of the pins leave alone, and what they change. -/

namespace Sys2Proof.Machine

/-! ### Events at the directory -/

@[simp] theorem State.line_react (s : State) (f : Index → Entry → Reaction) : (s.react f).line = s.line := rfl
@[simp] theorem State.engine_react (s : State) (f : Index → Entry → Reaction) : (s.react f).engine = s.engine := rfl
@[simp] theorem State.cycle_react (s : State) (f : Index → Entry → Reaction) : (s.react f).cycle = s.cycle := rfl
@[simp] theorem State.flags_react (s : State) (f : Index → Entry → Reaction) : (s.react f).flags = s.flags := rfl
@[simp] theorem State.pins_react (s : State) (f : Index → Entry → Reaction) : (s.react f).pins = s.pins := rfl
@[simp] theorem State.staged_react (s : State) (f : Index → Entry → Reaction) : (s.react f).staged = s.staged := rfl
@[simp] theorem State.applied_react (s : State) (f : Index → Entry → Reaction) : (s.react f).applied = s.applied := rfl
@[simp] theorem State.applySet_react (s : State) (f : Index → Entry → Reaction) : (s.react f).applySet = s.applySet := rfl
@[simp] theorem State.port_react (s : State) (f : Index → Entry → Reaction) : (s.react f).port = s.port := rfl
@[simp] theorem State.samples_react (s : State) (f : Index → Entry → Reaction) : (s.react f).samples = s.samples := rfl
@[simp] theorem State.pending_react (s : State) (f : Index → Entry → Reaction) : (s.react f).pending = s.pending := rfl
@[simp] theorem State.home_react (s : State) (f : Index → Entry → Reaction) (j : Index) : (s.react f).home j = s.home j := rfl
@[simp] theorem State.mode_react (s : State) (f : Index → Entry → Reaction) (m : LineId) : (s.react f).mode m = s.mode m := rfl
@[simp] theorem State.participates_react (s : State) (f : Index → Entry → Reaction) (m : LineId) : (s.react f).participates m = s.participates m := rfl
@[simp] theorem State.usable_react (s : State) (f : Index → Entry → Reaction) (m : LineId) : (s.react f).usable m = s.usable m := rfl
@[simp] theorem State.stampNow_react (s : State) (f : Index → Entry → Reaction) (m : LineId) : (s.react f).stampNow m = s.stampNow m := rfl
@[simp] theorem State.isDetached_react (s : State) (f : Index → Entry → Reaction) (m : LineId) : (s.react f).isDetached m = s.isDetached m := rfl
@[simp] theorem State.canReceive_react (s : State) (f : Index → Entry → Reaction) (m : LineId) : (s.react f).canReceive m = s.canReceive m := rfl
@[simp] theorem State.sendingAttempt_react (s : State) (f : Index → Entry → Reaction) (m : LineId) : (s.react f).sendingAttempt m = s.sendingAttempt m := rfl
@[simp] theorem State.canSelect_react (s : State) (f : Index → Entry → Reaction) (m : LineId) : (s.react f).canSelect m = s.canSelect m := rfl

@[simp] theorem State.line_reactAt (s : State) (i : Index) (f : Entry → Reaction) : (s.reactAt i f).line = s.line := rfl
@[simp] theorem State.engine_reactAt (s : State) (i : Index) (f : Entry → Reaction) : (s.reactAt i f).engine = s.engine := rfl
@[simp] theorem State.cycle_reactAt (s : State) (i : Index) (f : Entry → Reaction) : (s.reactAt i f).cycle = s.cycle := rfl
@[simp] theorem State.flags_reactAt (s : State) (i : Index) (f : Entry → Reaction) : (s.reactAt i f).flags = s.flags := rfl
@[simp] theorem State.pins_reactAt (s : State) (i : Index) (f : Entry → Reaction) : (s.reactAt i f).pins = s.pins := rfl
@[simp] theorem State.staged_reactAt (s : State) (i : Index) (f : Entry → Reaction) : (s.reactAt i f).staged = s.staged := rfl
@[simp] theorem State.applied_reactAt (s : State) (i : Index) (f : Entry → Reaction) : (s.reactAt i f).applied = s.applied := rfl
@[simp] theorem State.applySet_reactAt (s : State) (i : Index) (f : Entry → Reaction) : (s.reactAt i f).applySet = s.applySet := rfl
@[simp] theorem State.port_reactAt (s : State) (i : Index) (f : Entry → Reaction) : (s.reactAt i f).port = s.port := rfl
@[simp] theorem State.samples_reactAt (s : State) (i : Index) (f : Entry → Reaction) : (s.reactAt i f).samples = s.samples := rfl
@[simp] theorem State.pending_reactAt (s : State) (i : Index) (f : Entry → Reaction) : (s.reactAt i f).pending = s.pending := rfl
@[simp] theorem State.home_reactAt (s : State) (i : Index) (f : Entry → Reaction) (j : Index) : (s.reactAt i f).home j = s.home j := rfl
@[simp] theorem State.mode_reactAt (s : State) (i : Index) (f : Entry → Reaction) (m : LineId) : (s.reactAt i f).mode m = s.mode m := rfl
@[simp] theorem State.participates_reactAt (s : State) (i : Index) (f : Entry → Reaction) (m : LineId) : (s.reactAt i f).participates m = s.participates m := rfl
@[simp] theorem State.usable_reactAt (s : State) (i : Index) (f : Entry → Reaction) (m : LineId) : (s.reactAt i f).usable m = s.usable m := rfl
@[simp] theorem State.stampNow_reactAt (s : State) (i : Index) (f : Entry → Reaction) (m : LineId) : (s.reactAt i f).stampNow m = s.stampNow m := rfl
@[simp] theorem State.isDetached_reactAt (s : State) (i : Index) (f : Entry → Reaction) (m : LineId) : (s.reactAt i f).isDetached m = s.isDetached m := rfl
@[simp] theorem State.canReceive_reactAt (s : State) (i : Index) (f : Entry → Reaction) (m : LineId) : (s.reactAt i f).canReceive m = s.canReceive m := rfl
@[simp] theorem State.sendingAttempt_reactAt (s : State) (i : Index) (f : Entry → Reaction) (m : LineId) : (s.reactAt i f).sendingAttempt m = s.sendingAttempt m := rfl
@[simp] theorem State.canSelect_reactAt (s : State) (i : Index) (f : Entry → Reaction) (m : LineId) : (s.reactAt i f).canSelect m = s.canSelect m := rfl

@[simp] theorem State.line_setEntry (s : State) (i : Index) (e : Entry) : (s.setEntry i e).line = s.line := rfl
@[simp] theorem State.engine_setEntry (s : State) (i : Index) (e : Entry) : (s.setEntry i e).engine = s.engine := rfl
@[simp] theorem State.cycle_setEntry (s : State) (i : Index) (e : Entry) : (s.setEntry i e).cycle = s.cycle := rfl
@[simp] theorem State.flags_setEntry (s : State) (i : Index) (e : Entry) : (s.setEntry i e).flags = s.flags := rfl
@[simp] theorem State.pins_setEntry (s : State) (i : Index) (e : Entry) : (s.setEntry i e).pins = s.pins := rfl
@[simp] theorem State.staged_setEntry (s : State) (i : Index) (e : Entry) : (s.setEntry i e).staged = s.staged := rfl
@[simp] theorem State.applied_setEntry (s : State) (i : Index) (e : Entry) : (s.setEntry i e).applied = s.applied := rfl
@[simp] theorem State.applySet_setEntry (s : State) (i : Index) (e : Entry) : (s.setEntry i e).applySet = s.applySet := rfl
@[simp] theorem State.port_setEntry (s : State) (i : Index) (e : Entry) : (s.setEntry i e).port = s.port := rfl
@[simp] theorem State.samples_setEntry (s : State) (i : Index) (e : Entry) : (s.setEntry i e).samples = s.samples := rfl
@[simp] theorem State.pending_setEntry (s : State) (i : Index) (e : Entry) : (s.setEntry i e).pending = s.pending := rfl
@[simp] theorem State.home_setEntry (s : State) (i : Index) (e : Entry) (j : Index) : (s.setEntry i e).home j = s.home j := rfl
@[simp] theorem State.mode_setEntry (s : State) (i : Index) (e : Entry) (m : LineId) : (s.setEntry i e).mode m = s.mode m := rfl
@[simp] theorem State.participates_setEntry (s : State) (i : Index) (e : Entry) (m : LineId) : (s.setEntry i e).participates m = s.participates m := rfl
@[simp] theorem State.usable_setEntry (s : State) (i : Index) (e : Entry) (m : LineId) : (s.setEntry i e).usable m = s.usable m := rfl
@[simp] theorem State.stampNow_setEntry (s : State) (i : Index) (e : Entry) (m : LineId) : (s.setEntry i e).stampNow m = s.stampNow m := rfl
@[simp] theorem State.isDetached_setEntry (s : State) (i : Index) (e : Entry) (m : LineId) : (s.setEntry i e).isDetached m = s.isDetached m := rfl
@[simp] theorem State.canReceive_setEntry (s : State) (i : Index) (e : Entry) (m : LineId) : (s.setEntry i e).canReceive m = s.canReceive m := rfl
@[simp] theorem State.sendingAttempt_setEntry (s : State) (i : Index) (e : Entry) (m : LineId) : (s.setEntry i e).sendingAttempt m = s.sendingAttempt m := rfl
@[simp] theorem State.canSelect_setEntry (s : State) (i : Index) (e : Entry) (m : LineId) : (s.setEntry i e).canSelect m = s.canSelect m := rfl
@[simp] theorem State.queue_setEntry (s : State) (i : Index) (e : Entry) : (s.setEntry i e).queue = s.queue := rfl

@[simp] theorem State.line_emptyEntry (s : State) (i : Index) : (s.emptyEntry i).line = s.line := rfl
@[simp] theorem State.engine_emptyEntry (s : State) (i : Index) : (s.emptyEntry i).engine = s.engine := rfl
@[simp] theorem State.cycle_emptyEntry (s : State) (i : Index) : (s.emptyEntry i).cycle = s.cycle := rfl
@[simp] theorem State.flags_emptyEntry (s : State) (i : Index) : (s.emptyEntry i).flags = s.flags := rfl
@[simp] theorem State.pins_emptyEntry (s : State) (i : Index) : (s.emptyEntry i).pins = s.pins := rfl
@[simp] theorem State.staged_emptyEntry (s : State) (i : Index) : (s.emptyEntry i).staged = s.staged := rfl
@[simp] theorem State.applied_emptyEntry (s : State) (i : Index) : (s.emptyEntry i).applied = s.applied := rfl
@[simp] theorem State.applySet_emptyEntry (s : State) (i : Index) : (s.emptyEntry i).applySet = s.applySet := rfl
@[simp] theorem State.port_emptyEntry (s : State) (i : Index) : (s.emptyEntry i).port = s.port := rfl
@[simp] theorem State.samples_emptyEntry (s : State) (i : Index) : (s.emptyEntry i).samples = s.samples := rfl
@[simp] theorem State.pending_emptyEntry (s : State) (i : Index) : (s.emptyEntry i).pending = s.pending := rfl
@[simp] theorem State.home_emptyEntry (s : State) (i : Index) (j : Index) : (s.emptyEntry i).home j = s.home j := rfl
@[simp] theorem State.mode_emptyEntry (s : State) (i : Index) (m : LineId) : (s.emptyEntry i).mode m = s.mode m := rfl
@[simp] theorem State.participates_emptyEntry (s : State) (i : Index) (m : LineId) : (s.emptyEntry i).participates m = s.participates m := rfl
@[simp] theorem State.usable_emptyEntry (s : State) (i : Index) (m : LineId) : (s.emptyEntry i).usable m = s.usable m := rfl
@[simp] theorem State.stampNow_emptyEntry (s : State) (i : Index) (m : LineId) : (s.emptyEntry i).stampNow m = s.stampNow m := rfl
@[simp] theorem State.isDetached_emptyEntry (s : State) (i : Index) (m : LineId) : (s.emptyEntry i).isDetached m = s.isDetached m := rfl
@[simp] theorem State.canReceive_emptyEntry (s : State) (i : Index) (m : LineId) : (s.emptyEntry i).canReceive m = s.canReceive m := rfl
@[simp] theorem State.sendingAttempt_emptyEntry (s : State) (i : Index) (m : LineId) : (s.emptyEntry i).sendingAttempt m = s.sendingAttempt m := rfl
@[simp] theorem State.canSelect_emptyEntry (s : State) (i : Index) (m : LineId) : (s.emptyEntry i).canSelect m = s.canSelect m := rfl

/-! ### Flags -/

@[simp] theorem State.entries_raise (s : State) (g : EventFlag) : (s.raise g).entries = s.entries := rfl
@[simp] theorem State.queue_raise (s : State) (g : EventFlag) : (s.raise g).queue = s.queue := rfl
@[simp] theorem State.line_raise (s : State) (g : EventFlag) : (s.raise g).line = s.line := rfl
@[simp] theorem State.engine_raise (s : State) (g : EventFlag) : (s.raise g).engine = s.engine := rfl
@[simp] theorem State.cycle_raise (s : State) (g : EventFlag) : (s.raise g).cycle = s.cycle := rfl
@[simp] theorem State.pins_raise (s : State) (g : EventFlag) : (s.raise g).pins = s.pins := rfl
@[simp] theorem State.staged_raise (s : State) (g : EventFlag) : (s.raise g).staged = s.staged := rfl
@[simp] theorem State.applied_raise (s : State) (g : EventFlag) : (s.raise g).applied = s.applied := rfl
@[simp] theorem State.applySet_raise (s : State) (g : EventFlag) : (s.raise g).applySet = s.applySet := rfl
@[simp] theorem State.port_raise (s : State) (g : EventFlag) : (s.raise g).port = s.port := rfl
@[simp] theorem State.samples_raise (s : State) (g : EventFlag) : (s.raise g).samples = s.samples := rfl
@[simp] theorem State.pending_raise (s : State) (g : EventFlag) : (s.raise g).pending = s.pending := rfl
@[simp] theorem State.home_raise (s : State) (g : EventFlag) (j : Index) : (s.raise g).home j = s.home j := rfl
@[simp] theorem State.mode_raise (s : State) (g : EventFlag) (m : LineId) : (s.raise g).mode m = s.mode m := rfl
@[simp] theorem State.participates_raise (s : State) (g : EventFlag) (m : LineId) : (s.raise g).participates m = s.participates m := rfl
@[simp] theorem State.usable_raise (s : State) (g : EventFlag) (m : LineId) : (s.raise g).usable m = s.usable m := rfl
@[simp] theorem State.stampNow_raise (s : State) (g : EventFlag) (m : LineId) : (s.raise g).stampNow m = s.stampNow m := rfl
@[simp] theorem State.isDetached_raise (s : State) (g : EventFlag) (m : LineId) : (s.raise g).isDetached m = s.isDetached m := rfl
@[simp] theorem State.canReceive_raise (s : State) (g : EventFlag) (m : LineId) : (s.raise g).canReceive m = s.canReceive m := rfl
@[simp] theorem State.sendingAttempt_raise (s : State) (g : EventFlag) (m : LineId) : (s.raise g).sendingAttempt m = s.sendingAttempt m := rfl
@[simp] theorem State.canSelect_raise (s : State) (g : EventFlag) (m : LineId) : (s.raise g).canSelect m = s.canSelect m := rfl
@[simp] theorem State.entry_raise (s : State) (g : EventFlag) (j : Index) : (s.raise g).entry j = s.entry j := rfl

@[simp] theorem State.entries_raiseIf (s : State) (c : Bool) (g : EventFlag) : (s.raiseIf c g).entries = s.entries := by
  cases c <;> rfl
@[simp] theorem State.queue_raiseIf (s : State) (c : Bool) (g : EventFlag) : (s.raiseIf c g).queue = s.queue := by
  cases c <;> rfl
@[simp] theorem State.line_raiseIf (s : State) (c : Bool) (g : EventFlag) : (s.raiseIf c g).line = s.line := by
  cases c <;> rfl
@[simp] theorem State.engine_raiseIf (s : State) (c : Bool) (g : EventFlag) : (s.raiseIf c g).engine = s.engine := by
  cases c <;> rfl
@[simp] theorem State.cycle_raiseIf (s : State) (c : Bool) (g : EventFlag) : (s.raiseIf c g).cycle = s.cycle := by
  cases c <;> rfl
@[simp] theorem State.pins_raiseIf (s : State) (c : Bool) (g : EventFlag) : (s.raiseIf c g).pins = s.pins := by
  cases c <;> rfl
@[simp] theorem State.staged_raiseIf (s : State) (c : Bool) (g : EventFlag) : (s.raiseIf c g).staged = s.staged := by
  cases c <;> rfl
@[simp] theorem State.applied_raiseIf (s : State) (c : Bool) (g : EventFlag) : (s.raiseIf c g).applied = s.applied := by
  cases c <;> rfl
@[simp] theorem State.applySet_raiseIf (s : State) (c : Bool) (g : EventFlag) : (s.raiseIf c g).applySet = s.applySet := by
  cases c <;> rfl
@[simp] theorem State.port_raiseIf (s : State) (c : Bool) (g : EventFlag) : (s.raiseIf c g).port = s.port := by
  cases c <;> rfl
@[simp] theorem State.samples_raiseIf (s : State) (c : Bool) (g : EventFlag) : (s.raiseIf c g).samples = s.samples := by
  cases c <;> rfl
@[simp] theorem State.pending_raiseIf (s : State) (c : Bool) (g : EventFlag) : (s.raiseIf c g).pending = s.pending := by
  cases c <;> rfl
@[simp] theorem State.home_raiseIf (s : State) (c : Bool) (g : EventFlag) (j : Index) : (s.raiseIf c g).home j = s.home j := by
  cases c <;> rfl
@[simp] theorem State.mode_raiseIf (s : State) (c : Bool) (g : EventFlag) (m : LineId) : (s.raiseIf c g).mode m = s.mode m := by
  cases c <;> rfl
@[simp] theorem State.participates_raiseIf (s : State) (c : Bool) (g : EventFlag) (m : LineId) : (s.raiseIf c g).participates m = s.participates m := by
  cases c <;> rfl
@[simp] theorem State.usable_raiseIf (s : State) (c : Bool) (g : EventFlag) (m : LineId) : (s.raiseIf c g).usable m = s.usable m := by
  cases c <;> rfl
@[simp] theorem State.stampNow_raiseIf (s : State) (c : Bool) (g : EventFlag) (m : LineId) : (s.raiseIf c g).stampNow m = s.stampNow m := by
  cases c <;> rfl
@[simp] theorem State.isDetached_raiseIf (s : State) (c : Bool) (g : EventFlag) (m : LineId) : (s.raiseIf c g).isDetached m = s.isDetached m := by
  cases c <;> rfl
@[simp] theorem State.canReceive_raiseIf (s : State) (c : Bool) (g : EventFlag) (m : LineId) : (s.raiseIf c g).canReceive m = s.canReceive m := by
  cases c <;> rfl
@[simp] theorem State.sendingAttempt_raiseIf (s : State) (c : Bool) (g : EventFlag) (m : LineId) : (s.raiseIf c g).sendingAttempt m = s.sendingAttempt m := by
  cases c <;> rfl
@[simp] theorem State.canSelect_raiseIf (s : State) (c : Bool) (g : EventFlag) (m : LineId) : (s.raiseIf c g).canSelect m = s.canSelect m := by
  cases c <;> rfl
@[simp] theorem State.entry_raiseIf (s : State) (c : Bool) (g : EventFlag) (j : Index) : (s.raiseIf c g).entry j = s.entry j := by
  cases c <;> rfl

theorem Seven.get_put {α : Type} (x : Seven α) (f g : LineFlag) (v : α) :
    (x.put f v).get g = if g = f then v else x.get g := by
  cases f <;> cases g <;> rfl

/-- R162: a raise sets its flag and leaves every other; QUEUE_READY follows the queue. -/
theorem State.flag_raise (s : State) (g f : EventFlag) (hg : g ≠ .queueReady) :
    (s.raise g).flag f = (s.flag f || f == g) := by
  cases g with
  | queueReady => exact absurd rfl hg
  | applyDone => cases f <;> simp [State.raise, State.withFlags, State.flag, Flags.put]
  | applyFault => cases f <;> simp [State.raise, State.withFlags, State.flag, Flags.put]
  | ofLine l x =>
    cases f with
    | ofLine m y =>
      simp only [State.raise, State.withFlags, State.flag, Flags.put]
      rw [PerLine.get_set]
      by_cases h : m = l
      · subst h
        rw [if_pos rfl, Seven.get_put]
        by_cases k : y = x <;> simp [k]
      · simp [h]
    | queueReady => simp [State.raise, State.withFlags, State.flag, Flags.put]
    | applyDone => simp [State.raise, State.withFlags, State.flag, Flags.put]
    | applyFault => simp [State.raise, State.withFlags, State.flag, Flags.put]

theorem State.flag_raiseIf (s : State) (c : Bool) (g f : EventFlag) (hg : g ≠ .queueReady) :
    (s.raiseIf c g).flag f = (s.flag f || (c && f == g)) := by
  cases c
  · simp [State.raiseIf]
  · simp [State.raiseIf, State.flag_raise s g f hg]

/-! ### Pins -/

@[simp] theorem State.entries_judgePins (s : State) : (s.judgePins).entries = s.entries := rfl
@[simp] theorem State.queue_judgePins (s : State) : (s.judgePins).queue = s.queue := rfl
@[simp] theorem State.line_judgePins (s : State) : (s.judgePins).line = s.line := rfl
@[simp] theorem State.engine_judgePins (s : State) : (s.judgePins).engine = s.engine := rfl
@[simp] theorem State.cycle_judgePins (s : State) : (s.judgePins).cycle = s.cycle := rfl
@[simp] theorem State.flags_judgePins (s : State) : (s.judgePins).flags = s.flags := rfl
@[simp] theorem State.staged_judgePins (s : State) : (s.judgePins).staged = s.staged := rfl
@[simp] theorem State.applied_judgePins (s : State) : (s.judgePins).applied = s.applied := rfl
@[simp] theorem State.applySet_judgePins (s : State) : (s.judgePins).applySet = s.applySet := rfl
@[simp] theorem State.port_judgePins (s : State) : (s.judgePins).port = s.port := rfl
@[simp] theorem State.samples_judgePins (s : State) : (s.judgePins).samples = s.samples := rfl
@[simp] theorem State.pending_judgePins (s : State) : (s.judgePins).pending = s.pending := rfl
@[simp] theorem State.home_judgePins (s : State) (j : Index) : (s.judgePins).home j = s.home j := rfl
@[simp] theorem State.mode_judgePins (s : State) (m : LineId) : (s.judgePins).mode m = s.mode m := rfl
@[simp] theorem State.participates_judgePins (s : State) (m : LineId) : (s.judgePins).participates m = s.participates m := rfl
@[simp] theorem State.usable_judgePins (s : State) (m : LineId) : (s.judgePins).usable m = s.usable m := rfl
@[simp] theorem State.stampNow_judgePins (s : State) (m : LineId) : (s.judgePins).stampNow m = s.stampNow m := rfl
@[simp] theorem State.isDetached_judgePins (s : State) (m : LineId) : (s.judgePins).isDetached m = s.isDetached m := rfl
@[simp] theorem State.canReceive_judgePins (s : State) (m : LineId) : (s.judgePins).canReceive m = s.canReceive m := rfl
@[simp] theorem State.sendingAttempt_judgePins (s : State) (m : LineId) : (s.judgePins).sendingAttempt m = s.sendingAttempt m := rfl
@[simp] theorem State.canSelect_judgePins (s : State) (m : LineId) : (s.judgePins).canSelect m = s.canSelect m := rfl
@[simp] theorem State.entry_judgePins (s : State) (j : Index) : (s.judgePins).entry j = s.entry j := rfl
@[simp] theorem State.flag_judgePins (s : State) (f : EventFlag) : (s.judgePins).flag f = s.flag f := rfl
@[simp] theorem State.demand_judgePins (s : State) (p : PinId) : (s.judgePins).demand p = s.demand p := rfl

@[simp] theorem State.entries_servicePins (s : State) (b : State) : (s.servicePins b).entries = s.entries := rfl
@[simp] theorem State.queue_servicePins (s : State) (b : State) : (s.servicePins b).queue = s.queue := rfl
@[simp] theorem State.line_servicePins (s : State) (b : State) : (s.servicePins b).line = s.line := rfl
@[simp] theorem State.engine_servicePins (s : State) (b : State) : (s.servicePins b).engine = s.engine := rfl
@[simp] theorem State.cycle_servicePins (s : State) (b : State) : (s.servicePins b).cycle = s.cycle := rfl
@[simp] theorem State.flags_servicePins (s : State) (b : State) : (s.servicePins b).flags = s.flags := rfl
@[simp] theorem State.staged_servicePins (s : State) (b : State) : (s.servicePins b).staged = s.staged := rfl
@[simp] theorem State.applied_servicePins (s : State) (b : State) : (s.servicePins b).applied = s.applied := rfl
@[simp] theorem State.applySet_servicePins (s : State) (b : State) : (s.servicePins b).applySet = s.applySet := rfl
@[simp] theorem State.port_servicePins (s : State) (b : State) : (s.servicePins b).port = s.port := rfl
@[simp] theorem State.samples_servicePins (s : State) (b : State) : (s.servicePins b).samples = s.samples := rfl
@[simp] theorem State.pending_servicePins (s : State) (b : State) : (s.servicePins b).pending = s.pending := rfl
@[simp] theorem State.home_servicePins (s : State) (b : State) (j : Index) : (s.servicePins b).home j = s.home j := rfl
@[simp] theorem State.mode_servicePins (s : State) (b : State) (m : LineId) : (s.servicePins b).mode m = s.mode m := rfl
@[simp] theorem State.participates_servicePins (s : State) (b : State) (m : LineId) : (s.servicePins b).participates m = s.participates m := rfl
@[simp] theorem State.usable_servicePins (s : State) (b : State) (m : LineId) : (s.servicePins b).usable m = s.usable m := rfl
@[simp] theorem State.stampNow_servicePins (s : State) (b : State) (m : LineId) : (s.servicePins b).stampNow m = s.stampNow m := rfl
@[simp] theorem State.isDetached_servicePins (s : State) (b : State) (m : LineId) : (s.servicePins b).isDetached m = s.isDetached m := rfl
@[simp] theorem State.canReceive_servicePins (s : State) (b : State) (m : LineId) : (s.servicePins b).canReceive m = s.canReceive m := rfl
@[simp] theorem State.sendingAttempt_servicePins (s : State) (b : State) (m : LineId) : (s.servicePins b).sendingAttempt m = s.sendingAttempt m := rfl
@[simp] theorem State.canSelect_servicePins (s : State) (b : State) (m : LineId) : (s.servicePins b).canSelect m = s.canSelect m := rfl
@[simp] theorem State.entry_servicePins (s : State) (b : State) (j : Index) : (s.servicePins b).entry j = s.entry j := rfl
@[simp] theorem State.flag_servicePins (s : State) (b : State) (f : EventFlag) : (s.servicePins b).flag f = s.flag f := rfl
@[simp] theorem State.demand_servicePins (s : State) (b : State) (p : PinId) : (s.servicePins b).demand p = s.demand p := rfl

/-- R165: each pin after a judgement. -/
theorem State.pins_judgePins (s : State) (p : PinId) : s.judgePins.pins.get p = (s.pins.get p).judge (s.demand p) := by
  cases p <;> rfl

/-- R166: each pin after a service request. -/
theorem State.pins_servicePins (s b : State) (p : PinId) :
    (s.servicePins b).pins.get p = (s.pins.get p).service (b.demand p) (s.demand p) := by
  cases p <;> rfl

/-- A judgement leaves a pin that is not in a window at its demand. -/
theorem PinState.judge_asserted (x : PinState) (d : Bool) (h : x.judge d ≠ .repulse) :
    x.judge d = .asserted ↔ d = true := by
  cases x <;> cases d <;> simp_all [PinState.judge, pinFor]

theorem PinState.service_asserted (x : PinState) (b d : Bool) (h : x.service b d ≠ .repulse) :
    x.service b d = .asserted ↔ d = true := by
  cases x <;> cases b <;> cases d <;> simp_all [PinState.service]

end Sys2Proof.Machine
end

