-- ==== Sys2Proof/Laws/Frames.lean ====
section
/-! SUPPORT. Laws/Frames: what each operation of the directory, the cycle units, the line controllers and the settings unit leaves alone. -/

namespace Sys2Proof.Machine

/-! ### Directory events -/

@[simp] theorem State.line_freezeLine (s : State) (l : LineId) : (s.freezeLine l).line = s.line := by
  rfl
@[simp] theorem State.engine_freezeLine (s : State) (l : LineId) : (s.freezeLine l).engine = s.engine := by
  rfl
@[simp] theorem State.cycle_freezeLine (s : State) (l : LineId) : (s.freezeLine l).cycle = s.cycle := by
  rfl
@[simp] theorem State.flags_freezeLine (s : State) (l : LineId) : (s.freezeLine l).flags = s.flags := by
  rfl
@[simp] theorem State.pins_freezeLine (s : State) (l : LineId) : (s.freezeLine l).pins = s.pins := by
  rfl
@[simp] theorem State.staged_freezeLine (s : State) (l : LineId) : (s.freezeLine l).staged = s.staged := by
  rfl
@[simp] theorem State.applied_freezeLine (s : State) (l : LineId) : (s.freezeLine l).applied = s.applied := by
  rfl
@[simp] theorem State.applySet_freezeLine (s : State) (l : LineId) : (s.freezeLine l).applySet = s.applySet := by
  rfl
@[simp] theorem State.port_freezeLine (s : State) (l : LineId) : (s.freezeLine l).port = s.port := by
  rfl
@[simp] theorem State.samples_freezeLine (s : State) (l : LineId) : (s.freezeLine l).samples = s.samples := by
  rfl
@[simp] theorem State.pending_freezeLine (s : State) (l : LineId) : (s.freezeLine l).pending = s.pending := by
  rfl

@[simp] theorem State.line_thawLine (s : State) (l : LineId) : (s.thawLine l).line = s.line := by
  rfl
@[simp] theorem State.engine_thawLine (s : State) (l : LineId) : (s.thawLine l).engine = s.engine := by
  rfl
@[simp] theorem State.cycle_thawLine (s : State) (l : LineId) : (s.thawLine l).cycle = s.cycle := by
  rfl
@[simp] theorem State.flags_thawLine (s : State) (l : LineId) : (s.thawLine l).flags = s.flags := by
  rfl
@[simp] theorem State.pins_thawLine (s : State) (l : LineId) : (s.thawLine l).pins = s.pins := by
  rfl
@[simp] theorem State.staged_thawLine (s : State) (l : LineId) : (s.thawLine l).staged = s.staged := by
  rfl
@[simp] theorem State.applied_thawLine (s : State) (l : LineId) : (s.thawLine l).applied = s.applied := by
  rfl
@[simp] theorem State.applySet_thawLine (s : State) (l : LineId) : (s.thawLine l).applySet = s.applySet := by
  rfl
@[simp] theorem State.port_thawLine (s : State) (l : LineId) : (s.thawLine l).port = s.port := by
  rfl
@[simp] theorem State.samples_thawLine (s : State) (l : LineId) : (s.thawLine l).samples = s.samples := by
  rfl
@[simp] theorem State.pending_thawLine (s : State) (l : LineId) : (s.thawLine l).pending = s.pending := by
  rfl

@[simp] theorem State.line_deliverData (s : State) (l : LineId) (t : Tag) (v : Value) : (s.deliverData l t v).line = s.line := by
  rfl
@[simp] theorem State.engine_deliverData (s : State) (l : LineId) (t : Tag) (v : Value) : (s.deliverData l t v).engine = s.engine := by
  rfl
@[simp] theorem State.cycle_deliverData (s : State) (l : LineId) (t : Tag) (v : Value) : (s.deliverData l t v).cycle = s.cycle := by
  rfl
@[simp] theorem State.flags_deliverData (s : State) (l : LineId) (t : Tag) (v : Value) : (s.deliverData l t v).flags = s.flags := by
  rfl
@[simp] theorem State.pins_deliverData (s : State) (l : LineId) (t : Tag) (v : Value) : (s.deliverData l t v).pins = s.pins := by
  rfl
@[simp] theorem State.staged_deliverData (s : State) (l : LineId) (t : Tag) (v : Value) : (s.deliverData l t v).staged = s.staged := by
  rfl
@[simp] theorem State.applied_deliverData (s : State) (l : LineId) (t : Tag) (v : Value) : (s.deliverData l t v).applied = s.applied := by
  rfl
@[simp] theorem State.applySet_deliverData (s : State) (l : LineId) (t : Tag) (v : Value) : (s.deliverData l t v).applySet = s.applySet := by
  rfl
@[simp] theorem State.port_deliverData (s : State) (l : LineId) (t : Tag) (v : Value) : (s.deliverData l t v).port = s.port := by
  rfl
@[simp] theorem State.samples_deliverData (s : State) (l : LineId) (t : Tag) (v : Value) : (s.deliverData l t v).samples = s.samples := by
  rfl
@[simp] theorem State.pending_deliverData (s : State) (l : LineId) (t : Tag) (v : Value) : (s.deliverData l t v).pending = s.pending := by
  rfl

@[simp] theorem State.line_deliverQuery (s : State) (l : LineId) (t : Tag) : (s.deliverQuery l t).line = s.line := by
  rfl
@[simp] theorem State.engine_deliverQuery (s : State) (l : LineId) (t : Tag) : (s.deliverQuery l t).engine = s.engine := by
  rfl
@[simp] theorem State.cycle_deliverQuery (s : State) (l : LineId) (t : Tag) : (s.deliverQuery l t).cycle = s.cycle := by
  rfl
@[simp] theorem State.flags_deliverQuery (s : State) (l : LineId) (t : Tag) : (s.deliverQuery l t).flags = s.flags := by
  rfl
@[simp] theorem State.pins_deliverQuery (s : State) (l : LineId) (t : Tag) : (s.deliverQuery l t).pins = s.pins := by
  rfl
@[simp] theorem State.staged_deliverQuery (s : State) (l : LineId) (t : Tag) : (s.deliverQuery l t).staged = s.staged := by
  rfl
@[simp] theorem State.applied_deliverQuery (s : State) (l : LineId) (t : Tag) : (s.deliverQuery l t).applied = s.applied := by
  rfl
@[simp] theorem State.applySet_deliverQuery (s : State) (l : LineId) (t : Tag) : (s.deliverQuery l t).applySet = s.applySet := by
  rfl
@[simp] theorem State.port_deliverQuery (s : State) (l : LineId) (t : Tag) : (s.deliverQuery l t).port = s.port := by
  rfl
@[simp] theorem State.samples_deliverQuery (s : State) (l : LineId) (t : Tag) : (s.deliverQuery l t).samples = s.samples := by
  rfl
@[simp] theorem State.pending_deliverQuery (s : State) (l : LineId) (t : Tag) : (s.deliverQuery l t).pending = s.pending := by
  rfl

@[simp] theorem State.line_deliverRecall (s : State) (l : LineId) : (s.deliverRecall l).line = s.line := by
  rfl
@[simp] theorem State.engine_deliverRecall (s : State) (l : LineId) : (s.deliverRecall l).engine = s.engine := by
  rfl
@[simp] theorem State.cycle_deliverRecall (s : State) (l : LineId) : (s.deliverRecall l).cycle = s.cycle := by
  rfl
@[simp] theorem State.flags_deliverRecall (s : State) (l : LineId) : (s.deliverRecall l).flags = s.flags := by
  rfl
@[simp] theorem State.pins_deliverRecall (s : State) (l : LineId) : (s.deliverRecall l).pins = s.pins := by
  rfl
@[simp] theorem State.staged_deliverRecall (s : State) (l : LineId) : (s.deliverRecall l).staged = s.staged := by
  rfl
@[simp] theorem State.applied_deliverRecall (s : State) (l : LineId) : (s.deliverRecall l).applied = s.applied := by
  rfl
@[simp] theorem State.applySet_deliverRecall (s : State) (l : LineId) : (s.deliverRecall l).applySet = s.applySet := by
  rfl
@[simp] theorem State.port_deliverRecall (s : State) (l : LineId) : (s.deliverRecall l).port = s.port := by
  rfl
@[simp] theorem State.samples_deliverRecall (s : State) (l : LineId) : (s.deliverRecall l).samples = s.samples := by
  rfl
@[simp] theorem State.pending_deliverRecall (s : State) (l : LineId) : (s.deliverRecall l).pending = s.pending := by
  rfl

@[simp] theorem State.line_boundaryAtDirectory (s : State) (l : LineId) (n : BitVec 4) (g : Bool) : (s.boundaryAtDirectory l n g).line = s.line := by
  rfl
@[simp] theorem State.engine_boundaryAtDirectory (s : State) (l : LineId) (n : BitVec 4) (g : Bool) : (s.boundaryAtDirectory l n g).engine = s.engine := by
  rfl
@[simp] theorem State.cycle_boundaryAtDirectory (s : State) (l : LineId) (n : BitVec 4) (g : Bool) : (s.boundaryAtDirectory l n g).cycle = s.cycle := by
  rfl
@[simp] theorem State.flags_boundaryAtDirectory (s : State) (l : LineId) (n : BitVec 4) (g : Bool) : (s.boundaryAtDirectory l n g).flags = s.flags := by
  rfl
@[simp] theorem State.pins_boundaryAtDirectory (s : State) (l : LineId) (n : BitVec 4) (g : Bool) : (s.boundaryAtDirectory l n g).pins = s.pins := by
  rfl
@[simp] theorem State.staged_boundaryAtDirectory (s : State) (l : LineId) (n : BitVec 4) (g : Bool) : (s.boundaryAtDirectory l n g).staged = s.staged := by
  rfl
@[simp] theorem State.applied_boundaryAtDirectory (s : State) (l : LineId) (n : BitVec 4) (g : Bool) : (s.boundaryAtDirectory l n g).applied = s.applied := by
  rfl
@[simp] theorem State.applySet_boundaryAtDirectory (s : State) (l : LineId) (n : BitVec 4) (g : Bool) : (s.boundaryAtDirectory l n g).applySet = s.applySet := by
  rfl
@[simp] theorem State.port_boundaryAtDirectory (s : State) (l : LineId) (n : BitVec 4) (g : Bool) : (s.boundaryAtDirectory l n g).port = s.port := by
  rfl
@[simp] theorem State.samples_boundaryAtDirectory (s : State) (l : LineId) (n : BitVec 4) (g : Bool) : (s.boundaryAtDirectory l n g).samples = s.samples := by
  rfl
@[simp] theorem State.pending_boundaryAtDirectory (s : State) (l : LineId) (n : BitVec 4) (g : Bool) : (s.boundaryAtDirectory l n g).pending = s.pending := by
  rfl

@[simp] theorem State.queue_sampleWhere (s : State) (p : Index → Bool) : (s.sampleWhere p).queue = s.queue := by
  rfl
@[simp] theorem State.line_sampleWhere (s : State) (p : Index → Bool) : (s.sampleWhere p).line = s.line := by
  rfl
@[simp] theorem State.engine_sampleWhere (s : State) (p : Index → Bool) : (s.sampleWhere p).engine = s.engine := by
  rfl
@[simp] theorem State.cycle_sampleWhere (s : State) (p : Index → Bool) : (s.sampleWhere p).cycle = s.cycle := by
  rfl
@[simp] theorem State.flags_sampleWhere (s : State) (p : Index → Bool) : (s.sampleWhere p).flags = s.flags := by
  rfl
@[simp] theorem State.pins_sampleWhere (s : State) (p : Index → Bool) : (s.sampleWhere p).pins = s.pins := by
  rfl
@[simp] theorem State.staged_sampleWhere (s : State) (p : Index → Bool) : (s.sampleWhere p).staged = s.staged := by
  rfl
@[simp] theorem State.applied_sampleWhere (s : State) (p : Index → Bool) : (s.sampleWhere p).applied = s.applied := by
  rfl
@[simp] theorem State.applySet_sampleWhere (s : State) (p : Index → Bool) : (s.sampleWhere p).applySet = s.applySet := by
  rfl
@[simp] theorem State.port_sampleWhere (s : State) (p : Index → Bool) : (s.sampleWhere p).port = s.port := by
  rfl
@[simp] theorem State.samples_sampleWhere (s : State) (p : Index → Bool) : (s.sampleWhere p).samples = s.samples := by
  rfl
@[simp] theorem State.pending_sampleWhere (s : State) (p : Index → Bool) : (s.sampleWhere p).pending = s.pending := by
  rfl

@[simp] theorem State.line_reportToEntry (s : State) (l : LineId) (i : Index) (a : Attempt) (x : Ending) : (s.reportToEntry l i a x).line = s.line := by
  unfold State.reportToEntry; (repeat' split) <;> simp
@[simp] theorem State.engine_reportToEntry (s : State) (l : LineId) (i : Index) (a : Attempt) (x : Ending) : (s.reportToEntry l i a x).engine = s.engine := by
  unfold State.reportToEntry; (repeat' split) <;> simp
@[simp] theorem State.cycle_reportToEntry (s : State) (l : LineId) (i : Index) (a : Attempt) (x : Ending) : (s.reportToEntry l i a x).cycle = s.cycle := by
  unfold State.reportToEntry; (repeat' split) <;> simp
@[simp] theorem State.flags_reportToEntry (s : State) (l : LineId) (i : Index) (a : Attempt) (x : Ending) : (s.reportToEntry l i a x).flags = s.flags := by
  unfold State.reportToEntry; (repeat' split) <;> simp
@[simp] theorem State.pins_reportToEntry (s : State) (l : LineId) (i : Index) (a : Attempt) (x : Ending) : (s.reportToEntry l i a x).pins = s.pins := by
  unfold State.reportToEntry; (repeat' split) <;> simp
@[simp] theorem State.staged_reportToEntry (s : State) (l : LineId) (i : Index) (a : Attempt) (x : Ending) : (s.reportToEntry l i a x).staged = s.staged := by
  unfold State.reportToEntry; (repeat' split) <;> simp
@[simp] theorem State.applied_reportToEntry (s : State) (l : LineId) (i : Index) (a : Attempt) (x : Ending) : (s.reportToEntry l i a x).applied = s.applied := by
  unfold State.reportToEntry; (repeat' split) <;> simp
@[simp] theorem State.applySet_reportToEntry (s : State) (l : LineId) (i : Index) (a : Attempt) (x : Ending) : (s.reportToEntry l i a x).applySet = s.applySet := by
  unfold State.reportToEntry; (repeat' split) <;> simp
@[simp] theorem State.port_reportToEntry (s : State) (l : LineId) (i : Index) (a : Attempt) (x : Ending) : (s.reportToEntry l i a x).port = s.port := by
  unfold State.reportToEntry; (repeat' split) <;> simp
@[simp] theorem State.samples_reportToEntry (s : State) (l : LineId) (i : Index) (a : Attempt) (x : Ending) : (s.reportToEntry l i a x).samples = s.samples := by
  unfold State.reportToEntry; (repeat' split) <;> simp
@[simp] theorem State.pending_reportToEntry (s : State) (l : LineId) (i : Index) (a : Attempt) (x : Ending) : (s.reportToEntry l i a x).pending = s.pending := by
  unfold State.reportToEntry; (repeat' split) <;> simp

@[simp] theorem State.queue_launch (s : State) (l : LineId) (i : Index) : (s.launch l i).queue = s.queue := by
  unfold State.launch; split <;> simp
@[simp] theorem State.line_launch (s : State) (l : LineId) (i : Index) : (s.launch l i).line = s.line := by
  unfold State.launch; split <;> simp
@[simp] theorem State.engine_launch (s : State) (l : LineId) (i : Index) : (s.launch l i).engine = s.engine := by
  unfold State.launch; split <;> simp
@[simp] theorem State.cycle_launch (s : State) (l : LineId) (i : Index) : (s.launch l i).cycle = s.cycle := by
  unfold State.launch; split <;> simp
@[simp] theorem State.flags_launch (s : State) (l : LineId) (i : Index) : (s.launch l i).flags = s.flags := by
  unfold State.launch; split <;> simp
@[simp] theorem State.pins_launch (s : State) (l : LineId) (i : Index) : (s.launch l i).pins = s.pins := by
  unfold State.launch; split <;> simp
@[simp] theorem State.staged_launch (s : State) (l : LineId) (i : Index) : (s.launch l i).staged = s.staged := by
  unfold State.launch; split <;> simp
@[simp] theorem State.applied_launch (s : State) (l : LineId) (i : Index) : (s.launch l i).applied = s.applied := by
  unfold State.launch; split <;> simp
@[simp] theorem State.applySet_launch (s : State) (l : LineId) (i : Index) : (s.launch l i).applySet = s.applySet := by
  unfold State.launch; split <;> simp
@[simp] theorem State.port_launch (s : State) (l : LineId) (i : Index) : (s.launch l i).port = s.port := by
  unfold State.launch; split <;> simp
@[simp] theorem State.samples_launch (s : State) (l : LineId) (i : Index) : (s.launch l i).samples = s.samples := by
  unfold State.launch; split <;> simp
@[simp] theorem State.pending_launch (s : State) (l : LineId) (i : Index) : (s.launch l i).pending = s.pending := by
  unfold State.launch; split <;> simp

/-! ### Cycle units -/

@[simp] theorem State.line_deliverUsability (s : State) (l : LineId) (b : Bool) : (s.deliverUsability l b).line = s.line := by
  unfold State.deliverUsability; split <;> simp
@[simp] theorem State.engine_deliverUsability (s : State) (l : LineId) (b : Bool) : (s.deliverUsability l b).engine = s.engine := by
  unfold State.deliverUsability; split <;> simp
@[simp] theorem State.cycle_deliverUsability (s : State) (l : LineId) (b : Bool) : (s.deliverUsability l b).cycle = s.cycle := by
  unfold State.deliverUsability; split <;> simp
@[simp] theorem State.flags_deliverUsability (s : State) (l : LineId) (b : Bool) : (s.deliverUsability l b).flags = s.flags := by
  unfold State.deliverUsability; split <;> simp
@[simp] theorem State.pins_deliverUsability (s : State) (l : LineId) (b : Bool) : (s.deliverUsability l b).pins = s.pins := by
  unfold State.deliverUsability; split <;> simp
@[simp] theorem State.staged_deliverUsability (s : State) (l : LineId) (b : Bool) : (s.deliverUsability l b).staged = s.staged := by
  unfold State.deliverUsability; split <;> simp
@[simp] theorem State.applied_deliverUsability (s : State) (l : LineId) (b : Bool) : (s.deliverUsability l b).applied = s.applied := by
  unfold State.deliverUsability; split <;> simp
@[simp] theorem State.applySet_deliverUsability (s : State) (l : LineId) (b : Bool) : (s.deliverUsability l b).applySet = s.applySet := by
  unfold State.deliverUsability; split <;> simp
@[simp] theorem State.port_deliverUsability (s : State) (l : LineId) (b : Bool) : (s.deliverUsability l b).port = s.port := by
  unfold State.deliverUsability; split <;> simp
@[simp] theorem State.samples_deliverUsability (s : State) (l : LineId) (b : Bool) : (s.deliverUsability l b).samples = s.samples := by
  unfold State.deliverUsability; split <;> simp
@[simp] theorem State.pending_deliverUsability (s : State) (l : LineId) (b : Bool) : (s.deliverUsability l b).pending = s.pending := by
  unfold State.deliverUsability; split <;> simp

@[simp] theorem State.line_takeBoundary (s : State) (l : LineId) (n : BitVec 4) : (s.takeBoundary l n).line = s.line := by
  unfold State.takeBoundary; simp
@[simp] theorem State.engine_takeBoundary (s : State) (l : LineId) (n : BitVec 4) : (s.takeBoundary l n).engine = s.engine := by
  unfold State.takeBoundary; simp
@[simp] theorem State.pins_takeBoundary (s : State) (l : LineId) (n : BitVec 4) : (s.takeBoundary l n).pins = s.pins := by
  unfold State.takeBoundary; simp
@[simp] theorem State.staged_takeBoundary (s : State) (l : LineId) (n : BitVec 4) : (s.takeBoundary l n).staged = s.staged := by
  unfold State.takeBoundary; simp
@[simp] theorem State.applied_takeBoundary (s : State) (l : LineId) (n : BitVec 4) : (s.takeBoundary l n).applied = s.applied := by
  unfold State.takeBoundary; simp
@[simp] theorem State.applySet_takeBoundary (s : State) (l : LineId) (n : BitVec 4) : (s.takeBoundary l n).applySet = s.applySet := by
  unfold State.takeBoundary; simp
@[simp] theorem State.port_takeBoundary (s : State) (l : LineId) (n : BitVec 4) : (s.takeBoundary l n).port = s.port := by
  unfold State.takeBoundary; simp
@[simp] theorem State.samples_takeBoundary (s : State) (l : LineId) (n : BitVec 4) : (s.takeBoundary l n).samples = s.samples := by
  unfold State.takeBoundary; simp
@[simp] theorem State.pending_takeBoundary (s : State) (l : LineId) (n : BitVec 4) : (s.takeBoundary l n).pending = s.pending := by
  unfold State.takeBoundary; simp
@[simp] theorem State.cycle_takeBoundary_other (s : State) (l : LineId) (n : BitVec 4) : (s.takeBoundary l n).cycle.get l.other = s.cycle.get l.other := by
  unfold State.takeBoundary; simp

@[simp] theorem State.line_deliverBeacon (s : State) (l : LineId) (d : Nat) (n : BitVec 4) : (s.deliverBeacon l d n).line = s.line := by
  unfold State.deliverBeacon; (repeat' split) <;> simp
@[simp] theorem State.engine_deliverBeacon (s : State) (l : LineId) (d : Nat) (n : BitVec 4) : (s.deliverBeacon l d n).engine = s.engine := by
  unfold State.deliverBeacon; (repeat' split) <;> simp
@[simp] theorem State.pins_deliverBeacon (s : State) (l : LineId) (d : Nat) (n : BitVec 4) : (s.deliverBeacon l d n).pins = s.pins := by
  unfold State.deliverBeacon; (repeat' split) <;> simp
@[simp] theorem State.staged_deliverBeacon (s : State) (l : LineId) (d : Nat) (n : BitVec 4) : (s.deliverBeacon l d n).staged = s.staged := by
  unfold State.deliverBeacon; (repeat' split) <;> simp
@[simp] theorem State.applied_deliverBeacon (s : State) (l : LineId) (d : Nat) (n : BitVec 4) : (s.deliverBeacon l d n).applied = s.applied := by
  unfold State.deliverBeacon; (repeat' split) <;> simp
@[simp] theorem State.applySet_deliverBeacon (s : State) (l : LineId) (d : Nat) (n : BitVec 4) : (s.deliverBeacon l d n).applySet = s.applySet := by
  unfold State.deliverBeacon; (repeat' split) <;> simp
@[simp] theorem State.port_deliverBeacon (s : State) (l : LineId) (d : Nat) (n : BitVec 4) : (s.deliverBeacon l d n).port = s.port := by
  unfold State.deliverBeacon; (repeat' split) <;> simp
@[simp] theorem State.samples_deliverBeacon (s : State) (l : LineId) (d : Nat) (n : BitVec 4) : (s.deliverBeacon l d n).samples = s.samples := by
  unfold State.deliverBeacon; (repeat' split) <;> simp
@[simp] theorem State.pending_deliverBeacon (s : State) (l : LineId) (d : Nat) (n : BitVec 4) : (s.deliverBeacon l d n).pending = s.pending := by
  unfold State.deliverBeacon; (repeat' split) <;> simp
@[simp] theorem State.cycle_deliverBeacon_other (s : State) (l : LineId) (d : Nat) (n : BitVec 4) : (s.deliverBeacon l d n).cycle.get l.other = s.cycle.get l.other := by
  unfold State.deliverBeacon; (repeat' split) <;> simp

@[simp] theorem State.line_reportToCycleUnit (s : State) (l : LineId) (a : Attempt) (x : Ending) : (s.reportToCycleUnit l a x).line = s.line := by
  unfold State.reportToCycleUnit; split <;> simp
@[simp] theorem State.engine_reportToCycleUnit (s : State) (l : LineId) (a : Attempt) (x : Ending) : (s.reportToCycleUnit l a x).engine = s.engine := by
  unfold State.reportToCycleUnit; split <;> simp
@[simp] theorem State.pins_reportToCycleUnit (s : State) (l : LineId) (a : Attempt) (x : Ending) : (s.reportToCycleUnit l a x).pins = s.pins := by
  unfold State.reportToCycleUnit; split <;> simp
@[simp] theorem State.staged_reportToCycleUnit (s : State) (l : LineId) (a : Attempt) (x : Ending) : (s.reportToCycleUnit l a x).staged = s.staged := by
  unfold State.reportToCycleUnit; split <;> simp
@[simp] theorem State.applied_reportToCycleUnit (s : State) (l : LineId) (a : Attempt) (x : Ending) : (s.reportToCycleUnit l a x).applied = s.applied := by
  unfold State.reportToCycleUnit; split <;> simp
@[simp] theorem State.applySet_reportToCycleUnit (s : State) (l : LineId) (a : Attempt) (x : Ending) : (s.reportToCycleUnit l a x).applySet = s.applySet := by
  unfold State.reportToCycleUnit; split <;> simp
@[simp] theorem State.port_reportToCycleUnit (s : State) (l : LineId) (a : Attempt) (x : Ending) : (s.reportToCycleUnit l a x).port = s.port := by
  unfold State.reportToCycleUnit; split <;> simp
@[simp] theorem State.samples_reportToCycleUnit (s : State) (l : LineId) (a : Attempt) (x : Ending) : (s.reportToCycleUnit l a x).samples = s.samples := by
  unfold State.reportToCycleUnit; split <;> simp
@[simp] theorem State.pending_reportToCycleUnit (s : State) (l : LineId) (a : Attempt) (x : Ending) : (s.reportToCycleUnit l a x).pending = s.pending := by
  unfold State.reportToCycleUnit; split <;> simp
@[simp] theorem State.cycle_reportToCycleUnit_other (s : State) (l : LineId) (a : Attempt) (x : Ending) : (s.reportToCycleUnit l a x).cycle.get l.other = s.cycle.get l.other := by
  unfold State.reportToCycleUnit; split <;> simp

@[simp] theorem State.line_lineStateReport (s : State) (l : LineId) (o : LineState) : (s.lineStateReport l o).line = s.line := by
  unfold State.lineStateReport; (repeat' split) <;> simp
@[simp] theorem State.engine_lineStateReport (s : State) (l : LineId) (o : LineState) : (s.lineStateReport l o).engine = s.engine := by
  unfold State.lineStateReport; (repeat' split) <;> simp
@[simp] theorem State.flags_lineStateReport (s : State) (l : LineId) (o : LineState) : (s.lineStateReport l o).flags = s.flags := by
  unfold State.lineStateReport; (repeat' split) <;> simp
@[simp] theorem State.pins_lineStateReport (s : State) (l : LineId) (o : LineState) : (s.lineStateReport l o).pins = s.pins := by
  unfold State.lineStateReport; (repeat' split) <;> simp
@[simp] theorem State.staged_lineStateReport (s : State) (l : LineId) (o : LineState) : (s.lineStateReport l o).staged = s.staged := by
  unfold State.lineStateReport; (repeat' split) <;> simp
@[simp] theorem State.applied_lineStateReport (s : State) (l : LineId) (o : LineState) : (s.lineStateReport l o).applied = s.applied := by
  unfold State.lineStateReport; (repeat' split) <;> simp
@[simp] theorem State.applySet_lineStateReport (s : State) (l : LineId) (o : LineState) : (s.lineStateReport l o).applySet = s.applySet := by
  unfold State.lineStateReport; (repeat' split) <;> simp
@[simp] theorem State.port_lineStateReport (s : State) (l : LineId) (o : LineState) : (s.lineStateReport l o).port = s.port := by
  unfold State.lineStateReport; (repeat' split) <;> simp
@[simp] theorem State.samples_lineStateReport (s : State) (l : LineId) (o : LineState) : (s.lineStateReport l o).samples = s.samples := by
  unfold State.lineStateReport; (repeat' split) <;> simp
@[simp] theorem State.pending_lineStateReport (s : State) (l : LineId) (o : LineState) : (s.lineStateReport l o).pending = s.pending := by
  unfold State.lineStateReport; (repeat' split) <;> simp
@[simp] theorem State.cycle_lineStateReport_other (s : State) (l : LineId) (o : LineState) : (s.lineStateReport l o).cycle.get l.other = s.cycle.get l.other := by
  unfold State.lineStateReport; (repeat' split) <;> simp

@[simp] theorem State.entries_periodExpires (s : State) (l : LineId) : (s.periodExpires l).entries = s.entries := by
  rfl
@[simp] theorem State.queue_periodExpires (s : State) (l : LineId) : (s.periodExpires l).queue = s.queue := by
  rfl
@[simp] theorem State.line_periodExpires (s : State) (l : LineId) : (s.periodExpires l).line = s.line := by
  rfl
@[simp] theorem State.engine_periodExpires (s : State) (l : LineId) : (s.periodExpires l).engine = s.engine := by
  rfl
@[simp] theorem State.flags_periodExpires (s : State) (l : LineId) : (s.periodExpires l).flags = s.flags := by
  rfl
@[simp] theorem State.pins_periodExpires (s : State) (l : LineId) : (s.periodExpires l).pins = s.pins := by
  rfl
@[simp] theorem State.staged_periodExpires (s : State) (l : LineId) : (s.periodExpires l).staged = s.staged := by
  rfl
@[simp] theorem State.applied_periodExpires (s : State) (l : LineId) : (s.periodExpires l).applied = s.applied := by
  rfl
@[simp] theorem State.applySet_periodExpires (s : State) (l : LineId) : (s.periodExpires l).applySet = s.applySet := by
  rfl
@[simp] theorem State.port_periodExpires (s : State) (l : LineId) : (s.periodExpires l).port = s.port := by
  rfl
@[simp] theorem State.samples_periodExpires (s : State) (l : LineId) : (s.periodExpires l).samples = s.samples := by
  rfl
@[simp] theorem State.pending_periodExpires (s : State) (l : LineId) : (s.periodExpires l).pending = s.pending := by
  rfl
@[simp] theorem State.cycle_periodExpires_other (s : State) (l : LineId) : (s.periodExpires l).cycle.get l.other = s.cycle.get l.other := by
  unfold State.periodExpires; simp

@[simp] theorem State.entries_resume (s : State) (l : LineId) : (s.resume l).entries = s.entries := by
  unfold State.resume; split <;> simp
@[simp] theorem State.queue_resume (s : State) (l : LineId) : (s.resume l).queue = s.queue := by
  unfold State.resume; split <;> simp
@[simp] theorem State.line_resume (s : State) (l : LineId) : (s.resume l).line = s.line := by
  unfold State.resume; split <;> simp
@[simp] theorem State.engine_resume (s : State) (l : LineId) : (s.resume l).engine = s.engine := by
  unfold State.resume; split <;> simp
@[simp] theorem State.flags_resume (s : State) (l : LineId) : (s.resume l).flags = s.flags := by
  unfold State.resume; split <;> simp
@[simp] theorem State.pins_resume (s : State) (l : LineId) : (s.resume l).pins = s.pins := by
  unfold State.resume; split <;> simp
@[simp] theorem State.staged_resume (s : State) (l : LineId) : (s.resume l).staged = s.staged := by
  unfold State.resume; split <;> simp
@[simp] theorem State.applied_resume (s : State) (l : LineId) : (s.resume l).applied = s.applied := by
  unfold State.resume; split <;> simp
@[simp] theorem State.applySet_resume (s : State) (l : LineId) : (s.resume l).applySet = s.applySet := by
  unfold State.resume; split <;> simp
@[simp] theorem State.port_resume (s : State) (l : LineId) : (s.resume l).port = s.port := by
  unfold State.resume; split <;> simp
@[simp] theorem State.samples_resume (s : State) (l : LineId) : (s.resume l).samples = s.samples := by
  unfold State.resume; split <;> simp
@[simp] theorem State.pending_resume (s : State) (l : LineId) : (s.resume l).pending = s.pending := by
  unfold State.resume; split <;> simp
@[simp] theorem State.cycle_resume_other (s : State) (l : LineId) : (s.resume l).cycle.get l.other = s.cycle.get l.other := by
  unfold State.resume; split <;> simp

@[simp] theorem State.line_watchExpires (s : State) (l : LineId) : (s.watchExpires l).line = s.line := by
  unfold State.watchExpires; simp
@[simp] theorem State.engine_watchExpires (s : State) (l : LineId) : (s.watchExpires l).engine = s.engine := by
  unfold State.watchExpires; simp
@[simp] theorem State.pins_watchExpires (s : State) (l : LineId) : (s.watchExpires l).pins = s.pins := by
  unfold State.watchExpires; simp
@[simp] theorem State.staged_watchExpires (s : State) (l : LineId) : (s.watchExpires l).staged = s.staged := by
  unfold State.watchExpires; simp
@[simp] theorem State.applied_watchExpires (s : State) (l : LineId) : (s.watchExpires l).applied = s.applied := by
  unfold State.watchExpires; simp
@[simp] theorem State.applySet_watchExpires (s : State) (l : LineId) : (s.watchExpires l).applySet = s.applySet := by
  unfold State.watchExpires; simp
@[simp] theorem State.port_watchExpires (s : State) (l : LineId) : (s.watchExpires l).port = s.port := by
  unfold State.watchExpires; simp
@[simp] theorem State.samples_watchExpires (s : State) (l : LineId) : (s.watchExpires l).samples = s.samples := by
  unfold State.watchExpires; simp
@[simp] theorem State.pending_watchExpires (s : State) (l : LineId) : (s.watchExpires l).pending = s.pending := by
  unfold State.watchExpires; simp
@[simp] theorem State.cycle_watchExpires_other (s : State) (l : LineId) : (s.watchExpires l).cycle.get l.other = s.cycle.get l.other := by
  unfold State.watchExpires; simp

/-! ### Line controllers -/

@[simp] theorem State.entries_withCounts (s : State) (l : LineId) (m n : Nat) : (s.withCounts l m n).entries = s.entries := by
  unfold State.withCounts; simp
@[simp] theorem State.queue_withCounts (s : State) (l : LineId) (m n : Nat) : (s.withCounts l m n).queue = s.queue := by
  unfold State.withCounts; simp
@[simp] theorem State.engine_withCounts (s : State) (l : LineId) (m n : Nat) : (s.withCounts l m n).engine = s.engine := by
  unfold State.withCounts; simp
@[simp] theorem State.cycle_withCounts (s : State) (l : LineId) (m n : Nat) : (s.withCounts l m n).cycle = s.cycle := by
  unfold State.withCounts; simp
@[simp] theorem State.pins_withCounts (s : State) (l : LineId) (m n : Nat) : (s.withCounts l m n).pins = s.pins := by
  unfold State.withCounts; simp
@[simp] theorem State.staged_withCounts (s : State) (l : LineId) (m n : Nat) : (s.withCounts l m n).staged = s.staged := by
  unfold State.withCounts; simp
@[simp] theorem State.applied_withCounts (s : State) (l : LineId) (m n : Nat) : (s.withCounts l m n).applied = s.applied := by
  unfold State.withCounts; simp
@[simp] theorem State.applySet_withCounts (s : State) (l : LineId) (m n : Nat) : (s.withCounts l m n).applySet = s.applySet := by
  unfold State.withCounts; simp
@[simp] theorem State.port_withCounts (s : State) (l : LineId) (m n : Nat) : (s.withCounts l m n).port = s.port := by
  unfold State.withCounts; simp
@[simp] theorem State.samples_withCounts (s : State) (l : LineId) (m n : Nat) : (s.withCounts l m n).samples = s.samples := by
  unfold State.withCounts; simp
@[simp] theorem State.pending_withCounts (s : State) (l : LineId) (m n : Nat) : (s.withCounts l m n).pending = s.pending := by
  unfold State.withCounts; simp
@[simp] theorem State.line_withCounts_other (s : State) (l : LineId) (m n : Nat) : (s.withCounts l m n).line.get l.other = s.line.get l.other := by
  unfold State.withCounts; simp

@[simp] theorem State.entries_countReception (s : State) (l : LineId) : (s.countReception l).entries = s.entries := by
  unfold State.countReception; simp
@[simp] theorem State.queue_countReception (s : State) (l : LineId) : (s.countReception l).queue = s.queue := by
  unfold State.countReception; simp
@[simp] theorem State.engine_countReception (s : State) (l : LineId) : (s.countReception l).engine = s.engine := by
  unfold State.countReception; simp
@[simp] theorem State.cycle_countReception (s : State) (l : LineId) : (s.countReception l).cycle = s.cycle := by
  unfold State.countReception; simp
@[simp] theorem State.pins_countReception (s : State) (l : LineId) : (s.countReception l).pins = s.pins := by
  unfold State.countReception; simp
@[simp] theorem State.staged_countReception (s : State) (l : LineId) : (s.countReception l).staged = s.staged := by
  unfold State.countReception; simp
@[simp] theorem State.applied_countReception (s : State) (l : LineId) : (s.countReception l).applied = s.applied := by
  unfold State.countReception; simp
@[simp] theorem State.applySet_countReception (s : State) (l : LineId) : (s.countReception l).applySet = s.applySet := by
  unfold State.countReception; simp
@[simp] theorem State.port_countReception (s : State) (l : LineId) : (s.countReception l).port = s.port := by
  unfold State.countReception; simp
@[simp] theorem State.samples_countReception (s : State) (l : LineId) : (s.countReception l).samples = s.samples := by
  unfold State.countReception; simp
@[simp] theorem State.pending_countReception (s : State) (l : LineId) : (s.countReception l).pending = s.pending := by
  unfold State.countReception; simp
@[simp] theorem State.line_countReception_other (s : State) (l : LineId) : (s.countReception l).line.get l.other = s.line.get l.other := by
  unfold State.countReception; simp

@[simp] theorem State.entries_countTransmission (s : State) (l : LineId) : (s.countTransmission l).entries = s.entries := by
  unfold State.countTransmission; simp
@[simp] theorem State.queue_countTransmission (s : State) (l : LineId) : (s.countTransmission l).queue = s.queue := by
  unfold State.countTransmission; simp
@[simp] theorem State.engine_countTransmission (s : State) (l : LineId) : (s.countTransmission l).engine = s.engine := by
  unfold State.countTransmission; simp
@[simp] theorem State.cycle_countTransmission (s : State) (l : LineId) : (s.countTransmission l).cycle = s.cycle := by
  unfold State.countTransmission; simp
@[simp] theorem State.pins_countTransmission (s : State) (l : LineId) : (s.countTransmission l).pins = s.pins := by
  unfold State.countTransmission; simp
@[simp] theorem State.staged_countTransmission (s : State) (l : LineId) : (s.countTransmission l).staged = s.staged := by
  unfold State.countTransmission; simp
@[simp] theorem State.applied_countTransmission (s : State) (l : LineId) : (s.countTransmission l).applied = s.applied := by
  unfold State.countTransmission; simp
@[simp] theorem State.applySet_countTransmission (s : State) (l : LineId) : (s.countTransmission l).applySet = s.applySet := by
  unfold State.countTransmission; simp
@[simp] theorem State.port_countTransmission (s : State) (l : LineId) : (s.countTransmission l).port = s.port := by
  unfold State.countTransmission; simp
@[simp] theorem State.samples_countTransmission (s : State) (l : LineId) : (s.countTransmission l).samples = s.samples := by
  unfold State.countTransmission; simp
@[simp] theorem State.pending_countTransmission (s : State) (l : LineId) : (s.countTransmission l).pending = s.pending := by
  unfold State.countTransmission; simp
@[simp] theorem State.line_countTransmission_other (s : State) (l : LineId) : (s.countTransmission l).line.get l.other = s.line.get l.other := by
  unfold State.countTransmission; simp

@[simp] theorem State.entries_noteError (s : State) (l : LineId) (k : ErrorKind) : (s.noteError l k).entries = s.entries := by
  rfl
@[simp] theorem State.queue_noteError (s : State) (l : LineId) (k : ErrorKind) : (s.noteError l k).queue = s.queue := by
  rfl
@[simp] theorem State.engine_noteError (s : State) (l : LineId) (k : ErrorKind) : (s.noteError l k).engine = s.engine := by
  rfl
@[simp] theorem State.cycle_noteError (s : State) (l : LineId) (k : ErrorKind) : (s.noteError l k).cycle = s.cycle := by
  rfl
@[simp] theorem State.pins_noteError (s : State) (l : LineId) (k : ErrorKind) : (s.noteError l k).pins = s.pins := by
  rfl
@[simp] theorem State.staged_noteError (s : State) (l : LineId) (k : ErrorKind) : (s.noteError l k).staged = s.staged := by
  rfl
@[simp] theorem State.applied_noteError (s : State) (l : LineId) (k : ErrorKind) : (s.noteError l k).applied = s.applied := by
  rfl
@[simp] theorem State.applySet_noteError (s : State) (l : LineId) (k : ErrorKind) : (s.noteError l k).applySet = s.applySet := by
  rfl
@[simp] theorem State.port_noteError (s : State) (l : LineId) (k : ErrorKind) : (s.noteError l k).port = s.port := by
  rfl
@[simp] theorem State.samples_noteError (s : State) (l : LineId) (k : ErrorKind) : (s.noteError l k).samples = s.samples := by
  rfl
@[simp] theorem State.pending_noteError (s : State) (l : LineId) (k : ErrorKind) : (s.noteError l k).pending = s.pending := by
  rfl
@[simp] theorem State.line_noteError_other (s : State) (l : LineId) (k : ErrorKind) : (s.noteError l k).line.get l.other = s.line.get l.other := by
  unfold State.noteError; simp

@[simp] theorem State.entries_emptyBuffer (s : State) (l : LineId) : (s.emptyBuffer l).entries = s.entries := by
  rfl
@[simp] theorem State.queue_emptyBuffer (s : State) (l : LineId) : (s.emptyBuffer l).queue = s.queue := by
  rfl
@[simp] theorem State.engine_emptyBuffer (s : State) (l : LineId) : (s.emptyBuffer l).engine = s.engine := by
  rfl
@[simp] theorem State.cycle_emptyBuffer (s : State) (l : LineId) : (s.emptyBuffer l).cycle = s.cycle := by
  rfl
@[simp] theorem State.flags_emptyBuffer (s : State) (l : LineId) : (s.emptyBuffer l).flags = s.flags := by
  rfl
@[simp] theorem State.pins_emptyBuffer (s : State) (l : LineId) : (s.emptyBuffer l).pins = s.pins := by
  rfl
@[simp] theorem State.staged_emptyBuffer (s : State) (l : LineId) : (s.emptyBuffer l).staged = s.staged := by
  rfl
@[simp] theorem State.applied_emptyBuffer (s : State) (l : LineId) : (s.emptyBuffer l).applied = s.applied := by
  rfl
@[simp] theorem State.applySet_emptyBuffer (s : State) (l : LineId) : (s.emptyBuffer l).applySet = s.applySet := by
  rfl
@[simp] theorem State.port_emptyBuffer (s : State) (l : LineId) : (s.emptyBuffer l).port = s.port := by
  rfl
@[simp] theorem State.samples_emptyBuffer (s : State) (l : LineId) : (s.emptyBuffer l).samples = s.samples := by
  rfl
@[simp] theorem State.pending_emptyBuffer (s : State) (l : LineId) : (s.emptyBuffer l).pending = s.pending := by
  rfl
@[simp] theorem State.line_emptyBuffer_other (s : State) (l : LineId) : (s.emptyBuffer l).line.get l.other = s.line.get l.other := by
  unfold State.emptyBuffer; simp

@[simp] theorem State.line_report (s : State) (l : LineId) (a : Attempt) (x : Ending) : (s.report l a x).line = s.line := by
  unfold State.report; split <;> simp
@[simp] theorem State.engine_report (s : State) (l : LineId) (a : Attempt) (x : Ending) : (s.report l a x).engine = s.engine := by
  unfold State.report; split <;> simp
@[simp] theorem State.pins_report (s : State) (l : LineId) (a : Attempt) (x : Ending) : (s.report l a x).pins = s.pins := by
  unfold State.report; split <;> simp
@[simp] theorem State.staged_report (s : State) (l : LineId) (a : Attempt) (x : Ending) : (s.report l a x).staged = s.staged := by
  unfold State.report; split <;> simp
@[simp] theorem State.applied_report (s : State) (l : LineId) (a : Attempt) (x : Ending) : (s.report l a x).applied = s.applied := by
  unfold State.report; split <;> simp
@[simp] theorem State.applySet_report (s : State) (l : LineId) (a : Attempt) (x : Ending) : (s.report l a x).applySet = s.applySet := by
  unfold State.report; split <;> simp
@[simp] theorem State.port_report (s : State) (l : LineId) (a : Attempt) (x : Ending) : (s.report l a x).port = s.port := by
  unfold State.report; split <;> simp
@[simp] theorem State.samples_report (s : State) (l : LineId) (a : Attempt) (x : Ending) : (s.report l a x).samples = s.samples := by
  unfold State.report; split <;> simp
@[simp] theorem State.pending_report (s : State) (l : LineId) (a : Attempt) (x : Ending) : (s.report l a x).pending = s.pending := by
  unfold State.report; split <;> simp
@[simp] theorem State.cycle_report_other (s : State) (l : LineId) (a : Attempt) (x : Ending) : (s.report l a x).cycle.get l.other = s.cycle.get l.other := by
  unfold State.report; split <;> simp

@[simp] theorem State.queue_copyFrame (s : State) (l : LineId) (a : Attempt) : (s.copyFrame l a).queue = s.queue := by
  unfold State.copyFrame; split <;> simp
@[simp] theorem State.engine_copyFrame (s : State) (l : LineId) (a : Attempt) : (s.copyFrame l a).engine = s.engine := by
  unfold State.copyFrame; split <;> simp
@[simp] theorem State.cycle_copyFrame (s : State) (l : LineId) (a : Attempt) : (s.copyFrame l a).cycle = s.cycle := by
  unfold State.copyFrame; split <;> simp
@[simp] theorem State.flags_copyFrame (s : State) (l : LineId) (a : Attempt) : (s.copyFrame l a).flags = s.flags := by
  unfold State.copyFrame; split <;> simp
@[simp] theorem State.pins_copyFrame (s : State) (l : LineId) (a : Attempt) : (s.copyFrame l a).pins = s.pins := by
  unfold State.copyFrame; split <;> simp
@[simp] theorem State.staged_copyFrame (s : State) (l : LineId) (a : Attempt) : (s.copyFrame l a).staged = s.staged := by
  unfold State.copyFrame; split <;> simp
@[simp] theorem State.applied_copyFrame (s : State) (l : LineId) (a : Attempt) : (s.copyFrame l a).applied = s.applied := by
  unfold State.copyFrame; split <;> simp
@[simp] theorem State.applySet_copyFrame (s : State) (l : LineId) (a : Attempt) : (s.copyFrame l a).applySet = s.applySet := by
  unfold State.copyFrame; split <;> simp
@[simp] theorem State.port_copyFrame (s : State) (l : LineId) (a : Attempt) : (s.copyFrame l a).port = s.port := by
  unfold State.copyFrame; split <;> simp
@[simp] theorem State.samples_copyFrame (s : State) (l : LineId) (a : Attempt) : (s.copyFrame l a).samples = s.samples := by
  unfold State.copyFrame; split <;> simp
@[simp] theorem State.pending_copyFrame (s : State) (l : LineId) (a : Attempt) : (s.copyFrame l a).pending = s.pending := by
  unfold State.copyFrame; split <;> simp
@[simp] theorem State.line_copyFrame_other (s : State) (l : LineId) (a : Attempt) : (s.copyFrame l a).line.get l.other = s.line.get l.other := by
  unfold State.copyFrame; split <;> simp

@[simp] theorem State.entries_receiveErrorOn (s : State) (l : LineId) (k : ErrorKind) : (s.receiveErrorOn l k).entries = s.entries := by
  unfold State.receiveErrorOn; simp
@[simp] theorem State.queue_receiveErrorOn (s : State) (l : LineId) (k : ErrorKind) : (s.receiveErrorOn l k).queue = s.queue := by
  unfold State.receiveErrorOn; simp
@[simp] theorem State.cycle_receiveErrorOn (s : State) (l : LineId) (k : ErrorKind) : (s.receiveErrorOn l k).cycle = s.cycle := by
  unfold State.receiveErrorOn; simp
@[simp] theorem State.pins_receiveErrorOn (s : State) (l : LineId) (k : ErrorKind) : (s.receiveErrorOn l k).pins = s.pins := by
  unfold State.receiveErrorOn; simp
@[simp] theorem State.staged_receiveErrorOn (s : State) (l : LineId) (k : ErrorKind) : (s.receiveErrorOn l k).staged = s.staged := by
  unfold State.receiveErrorOn; simp
@[simp] theorem State.applied_receiveErrorOn (s : State) (l : LineId) (k : ErrorKind) : (s.receiveErrorOn l k).applied = s.applied := by
  unfold State.receiveErrorOn; simp
@[simp] theorem State.applySet_receiveErrorOn (s : State) (l : LineId) (k : ErrorKind) : (s.receiveErrorOn l k).applySet = s.applySet := by
  unfold State.receiveErrorOn; simp
@[simp] theorem State.port_receiveErrorOn (s : State) (l : LineId) (k : ErrorKind) : (s.receiveErrorOn l k).port = s.port := by
  unfold State.receiveErrorOn; simp
@[simp] theorem State.samples_receiveErrorOn (s : State) (l : LineId) (k : ErrorKind) : (s.receiveErrorOn l k).samples = s.samples := by
  unfold State.receiveErrorOn; simp
@[simp] theorem State.pending_receiveErrorOn (s : State) (l : LineId) (k : ErrorKind) : (s.receiveErrorOn l k).pending = s.pending := by
  unfold State.receiveErrorOn; simp
@[simp] theorem State.line_receiveErrorOn_other (s : State) (l : LineId) (k : ErrorKind) : (s.receiveErrorOn l k).line.get l.other = s.line.get l.other := by
  unfold State.receiveErrorOn; simp
@[simp] theorem State.engine_receiveErrorOn_other (s : State) (l : LineId) (k : ErrorKind) : (s.receiveErrorOn l k).engine.get l.other = s.engine.get l.other := by
  unfold State.receiveErrorOn; simp

@[simp] theorem State.engine_enterOff (s : State) (l : LineId) (a : Attempt) : (s.enterOff l a).engine = s.engine := by
  unfold State.enterOff; simp
@[simp] theorem State.pins_enterOff (s : State) (l : LineId) (a : Attempt) : (s.enterOff l a).pins = s.pins := by
  unfold State.enterOff; simp
@[simp] theorem State.staged_enterOff (s : State) (l : LineId) (a : Attempt) : (s.enterOff l a).staged = s.staged := by
  unfold State.enterOff; simp
@[simp] theorem State.applied_enterOff (s : State) (l : LineId) (a : Attempt) : (s.enterOff l a).applied = s.applied := by
  unfold State.enterOff; simp
@[simp] theorem State.applySet_enterOff (s : State) (l : LineId) (a : Attempt) : (s.enterOff l a).applySet = s.applySet := by
  unfold State.enterOff; simp
@[simp] theorem State.port_enterOff (s : State) (l : LineId) (a : Attempt) : (s.enterOff l a).port = s.port := by
  unfold State.enterOff; simp
@[simp] theorem State.samples_enterOff (s : State) (l : LineId) (a : Attempt) : (s.enterOff l a).samples = s.samples := by
  unfold State.enterOff; simp
@[simp] theorem State.pending_enterOff (s : State) (l : LineId) (a : Attempt) : (s.enterOff l a).pending = s.pending := by
  unfold State.enterOff; simp
@[simp] theorem State.line_enterOff_other (s : State) (l : LineId) (a : Attempt) : (s.enterOff l a).line.get l.other = s.line.get l.other := by
  unfold State.enterOff; simp
@[simp] theorem State.cycle_enterOff_other (s : State) (l : LineId) (a : Attempt) : (s.enterOff l a).cycle.get l.other = s.cycle.get l.other := by
  unfold State.enterOff; simp

@[simp] theorem State.pins_transmitErrorOn (s : State) (l : LineId) (k : ErrorKind) (a : Attempt) : (s.transmitErrorOn l k a).pins = s.pins := by
  unfold State.transmitErrorOn; dsimp only; split <;> simp
@[simp] theorem State.staged_transmitErrorOn (s : State) (l : LineId) (k : ErrorKind) (a : Attempt) : (s.transmitErrorOn l k a).staged = s.staged := by
  unfold State.transmitErrorOn; dsimp only; split <;> simp
@[simp] theorem State.applied_transmitErrorOn (s : State) (l : LineId) (k : ErrorKind) (a : Attempt) : (s.transmitErrorOn l k a).applied = s.applied := by
  unfold State.transmitErrorOn; dsimp only; split <;> simp
@[simp] theorem State.applySet_transmitErrorOn (s : State) (l : LineId) (k : ErrorKind) (a : Attempt) : (s.transmitErrorOn l k a).applySet = s.applySet := by
  unfold State.transmitErrorOn; dsimp only; split <;> simp
@[simp] theorem State.port_transmitErrorOn (s : State) (l : LineId) (k : ErrorKind) (a : Attempt) : (s.transmitErrorOn l k a).port = s.port := by
  unfold State.transmitErrorOn; dsimp only; split <;> simp
@[simp] theorem State.samples_transmitErrorOn (s : State) (l : LineId) (k : ErrorKind) (a : Attempt) : (s.transmitErrorOn l k a).samples = s.samples := by
  unfold State.transmitErrorOn; dsimp only; split <;> simp
@[simp] theorem State.pending_transmitErrorOn (s : State) (l : LineId) (k : ErrorKind) (a : Attempt) : (s.transmitErrorOn l k a).pending = s.pending := by
  unfold State.transmitErrorOn; dsimp only; split <;> simp
@[simp] theorem State.line_transmitErrorOn_other (s : State) (l : LineId) (k : ErrorKind) (a : Attempt) : (s.transmitErrorOn l k a).line.get l.other = s.line.get l.other := by
  unfold State.transmitErrorOn; dsimp only; split <;> simp
@[simp] theorem State.engine_transmitErrorOn_other (s : State) (l : LineId) (k : ErrorKind) (a : Attempt) : (s.transmitErrorOn l k a).engine.get l.other = s.engine.get l.other := by
  unfold State.transmitErrorOn; dsimp only; split <;> simp
@[simp] theorem State.cycle_transmitErrorOn_other (s : State) (l : LineId) (k : ErrorKind) (a : Attempt) : (s.transmitErrorOn l k a).cycle.get l.other = s.cycle.get l.other := by
  unfold State.transmitErrorOn; dsimp only; split <;> simp

@[simp] theorem State.line_deliver (s : State) (l : LineId) (w : WireFrame) : (s.deliver l w).line = s.line := by
  unfold State.deliver; (repeat' split) <;> simp
@[simp] theorem State.engine_deliver (s : State) (l : LineId) (w : WireFrame) : (s.deliver l w).engine = s.engine := by
  unfold State.deliver; (repeat' split) <;> simp
@[simp] theorem State.pins_deliver (s : State) (l : LineId) (w : WireFrame) : (s.deliver l w).pins = s.pins := by
  unfold State.deliver; (repeat' split) <;> simp
@[simp] theorem State.staged_deliver (s : State) (l : LineId) (w : WireFrame) : (s.deliver l w).staged = s.staged := by
  unfold State.deliver; (repeat' split) <;> simp
@[simp] theorem State.applied_deliver (s : State) (l : LineId) (w : WireFrame) : (s.deliver l w).applied = s.applied := by
  unfold State.deliver; (repeat' split) <;> simp
@[simp] theorem State.applySet_deliver (s : State) (l : LineId) (w : WireFrame) : (s.deliver l w).applySet = s.applySet := by
  unfold State.deliver; (repeat' split) <;> simp
@[simp] theorem State.port_deliver (s : State) (l : LineId) (w : WireFrame) : (s.deliver l w).port = s.port := by
  unfold State.deliver; (repeat' split) <;> simp
@[simp] theorem State.samples_deliver (s : State) (l : LineId) (w : WireFrame) : (s.deliver l w).samples = s.samples := by
  unfold State.deliver; (repeat' split) <;> simp
@[simp] theorem State.pending_deliver (s : State) (l : LineId) (w : WireFrame) : (s.deliver l w).pending = s.pending := by
  unfold State.deliver; (repeat' split) <;> simp
@[simp] theorem State.cycle_deliver_other (s : State) (l : LineId) (w : WireFrame) : (s.deliver l w).cycle.get l.other = s.cycle.get l.other := by
  unfold State.deliver; (repeat' split) <;> simp

@[simp] theorem State.engine_takeFrame (s : State) (l : LineId) (w : WireFrame) : (s.takeFrame l w).engine = s.engine := by
  unfold State.takeFrame; simp
@[simp] theorem State.staged_takeFrame (s : State) (l : LineId) (w : WireFrame) : (s.takeFrame l w).staged = s.staged := by
  unfold State.takeFrame; simp
@[simp] theorem State.applied_takeFrame (s : State) (l : LineId) (w : WireFrame) : (s.takeFrame l w).applied = s.applied := by
  unfold State.takeFrame; simp
@[simp] theorem State.applySet_takeFrame (s : State) (l : LineId) (w : WireFrame) : (s.takeFrame l w).applySet = s.applySet := by
  unfold State.takeFrame; simp
@[simp] theorem State.port_takeFrame (s : State) (l : LineId) (w : WireFrame) : (s.takeFrame l w).port = s.port := by
  unfold State.takeFrame; simp
@[simp] theorem State.samples_takeFrame (s : State) (l : LineId) (w : WireFrame) : (s.takeFrame l w).samples = s.samples := by
  unfold State.takeFrame; simp
@[simp] theorem State.pending_takeFrame (s : State) (l : LineId) (w : WireFrame) : (s.takeFrame l w).pending = s.pending := by
  unfold State.takeFrame; simp
@[simp] theorem State.line_takeFrame_other (s : State) (l : LineId) (w : WireFrame) : (s.takeFrame l w).line.get l.other = s.line.get l.other := by
  unfold State.takeFrame; simp
@[simp] theorem State.cycle_takeFrame_other (s : State) (l : LineId) (w : WireFrame) : (s.takeFrame l w).cycle.get l.other = s.cycle.get l.other := by
  unfold State.takeFrame; simp

@[simp] theorem State.staged_receiveFrame (s : State) (l : LineId) (w : WireFrame) : (s.receiveFrame l w).staged = s.staged := by
  unfold State.receiveFrame; (repeat' split) <;> simp
@[simp] theorem State.applied_receiveFrame (s : State) (l : LineId) (w : WireFrame) : (s.receiveFrame l w).applied = s.applied := by
  unfold State.receiveFrame; (repeat' split) <;> simp
@[simp] theorem State.applySet_receiveFrame (s : State) (l : LineId) (w : WireFrame) : (s.receiveFrame l w).applySet = s.applySet := by
  unfold State.receiveFrame; (repeat' split) <;> simp
@[simp] theorem State.port_receiveFrame (s : State) (l : LineId) (w : WireFrame) : (s.receiveFrame l w).port = s.port := by
  unfold State.receiveFrame; (repeat' split) <;> simp
@[simp] theorem State.samples_receiveFrame (s : State) (l : LineId) (w : WireFrame) : (s.receiveFrame l w).samples = s.samples := by
  unfold State.receiveFrame; (repeat' split) <;> simp
@[simp] theorem State.pending_receiveFrame (s : State) (l : LineId) (w : WireFrame) : (s.receiveFrame l w).pending = s.pending := by
  unfold State.receiveFrame; (repeat' split) <;> simp
@[simp] theorem State.line_receiveFrame_other (s : State) (l : LineId) (w : WireFrame) : (s.receiveFrame l w).line.get l.other = s.line.get l.other := by
  unfold State.receiveFrame; (repeat' split) <;> simp
@[simp] theorem State.engine_receiveFrame_other (s : State) (l : LineId) (w : WireFrame) : (s.receiveFrame l w).engine.get l.other = s.engine.get l.other := by
  unfold State.receiveFrame; (repeat' split) <;> simp
@[simp] theorem State.cycle_receiveFrame_other (s : State) (l : LineId) (w : WireFrame) : (s.receiveFrame l w).cycle.get l.other = s.cycle.get l.other := by
  unfold State.receiveFrame; (repeat' split) <;> simp

@[simp] theorem State.pins_stopLine (s : State) (l : LineId) (x : Ending) : (s.stopLine l x).pins = s.pins := by
  unfold State.stopLine; dsimp only; split <;> simp
@[simp] theorem State.staged_stopLine (s : State) (l : LineId) (x : Ending) : (s.stopLine l x).staged = s.staged := by
  unfold State.stopLine; dsimp only; split <;> simp
@[simp] theorem State.applied_stopLine (s : State) (l : LineId) (x : Ending) : (s.stopLine l x).applied = s.applied := by
  unfold State.stopLine; dsimp only; split <;> simp
@[simp] theorem State.applySet_stopLine (s : State) (l : LineId) (x : Ending) : (s.stopLine l x).applySet = s.applySet := by
  unfold State.stopLine; dsimp only; split <;> simp
@[simp] theorem State.port_stopLine (s : State) (l : LineId) (x : Ending) : (s.stopLine l x).port = s.port := by
  unfold State.stopLine; dsimp only; split <;> simp
@[simp] theorem State.samples_stopLine (s : State) (l : LineId) (x : Ending) : (s.stopLine l x).samples = s.samples := by
  unfold State.stopLine; dsimp only; split <;> simp
@[simp] theorem State.pending_stopLine (s : State) (l : LineId) (x : Ending) : (s.stopLine l x).pending = s.pending := by
  unfold State.stopLine; dsimp only; split <;> simp
@[simp] theorem State.line_stopLine_other (s : State) (l : LineId) (x : Ending) : (s.stopLine l x).line.get l.other = s.line.get l.other := by
  unfold State.stopLine; dsimp only; split <;> simp
@[simp] theorem State.engine_stopLine_other (s : State) (l : LineId) (x : Ending) : (s.stopLine l x).engine.get l.other = s.engine.get l.other := by
  unfold State.stopLine; dsimp only; split <;> simp
@[simp] theorem State.cycle_stopLine_other (s : State) (l : LineId) (x : Ending) : (s.stopLine l x).cycle.get l.other = s.cycle.get l.other := by
  unfold State.stopLine; dsimp only; split <;> simp

/-! ### Settings -/

@[simp] theorem State.queue_applyLineItems (s : State) (l : LineId) (x : LineSettings) : (s.applyLineItems l x).queue = s.queue := by
  unfold State.applyLineItems; dsimp only; split <;> simp
@[simp] theorem State.line_applyLineItems (s : State) (l : LineId) (x : LineSettings) : (s.applyLineItems l x).line = s.line := by
  unfold State.applyLineItems; dsimp only; split <;> simp
@[simp] theorem State.engine_applyLineItems (s : State) (l : LineId) (x : LineSettings) : (s.applyLineItems l x).engine = s.engine := by
  unfold State.applyLineItems; dsimp only; split <;> simp
@[simp] theorem State.flags_applyLineItems (s : State) (l : LineId) (x : LineSettings) : (s.applyLineItems l x).flags = s.flags := by
  unfold State.applyLineItems; dsimp only; split <;> simp
@[simp] theorem State.pins_applyLineItems (s : State) (l : LineId) (x : LineSettings) : (s.applyLineItems l x).pins = s.pins := by
  unfold State.applyLineItems; dsimp only; split <;> simp
@[simp] theorem State.staged_applyLineItems (s : State) (l : LineId) (x : LineSettings) : (s.applyLineItems l x).staged = s.staged := by
  unfold State.applyLineItems; dsimp only; split <;> simp
@[simp] theorem State.applySet_applyLineItems (s : State) (l : LineId) (x : LineSettings) : (s.applyLineItems l x).applySet = s.applySet := by
  unfold State.applyLineItems; dsimp only; split <;> simp
@[simp] theorem State.port_applyLineItems (s : State) (l : LineId) (x : LineSettings) : (s.applyLineItems l x).port = s.port := by
  unfold State.applyLineItems; dsimp only; split <;> simp
@[simp] theorem State.samples_applyLineItems (s : State) (l : LineId) (x : LineSettings) : (s.applyLineItems l x).samples = s.samples := by
  unfold State.applyLineItems; dsimp only; split <;> simp
@[simp] theorem State.pending_applyLineItems (s : State) (l : LineId) (x : LineSettings) : (s.applyLineItems l x).pending = s.pending := by
  unfold State.applyLineItems; dsimp only; split <;> simp
@[simp] theorem State.cycle_applyLineItems_other (s : State) (l : LineId) (x : LineSettings) : (s.applyLineItems l x).cycle.get l.other = s.cycle.get l.other := by
  unfold State.applyLineItems; dsimp only; split <;> simp

@[simp] theorem State.queue_tryLine (s : State) (l : LineId) : (s.tryLine l).queue = s.queue := by
  unfold State.tryLine; (repeat' split) <;> simp
@[simp] theorem State.line_tryLine (s : State) (l : LineId) : (s.tryLine l).line = s.line := by
  unfold State.tryLine; (repeat' split) <;> simp
@[simp] theorem State.engine_tryLine (s : State) (l : LineId) : (s.tryLine l).engine = s.engine := by
  unfold State.tryLine; (repeat' split) <;> simp
@[simp] theorem State.flags_tryLine (s : State) (l : LineId) : (s.tryLine l).flags = s.flags := by
  unfold State.tryLine; (repeat' split) <;> simp
@[simp] theorem State.pins_tryLine (s : State) (l : LineId) : (s.tryLine l).pins = s.pins := by
  unfold State.tryLine; (repeat' split) <;> simp
@[simp] theorem State.staged_tryLine (s : State) (l : LineId) : (s.tryLine l).staged = s.staged := by
  unfold State.tryLine; (repeat' split) <;> simp
@[simp] theorem State.port_tryLine (s : State) (l : LineId) : (s.tryLine l).port = s.port := by
  unfold State.tryLine; (repeat' split) <;> simp
@[simp] theorem State.samples_tryLine (s : State) (l : LineId) : (s.tryLine l).samples = s.samples := by
  unfold State.tryLine; (repeat' split) <;> simp
@[simp] theorem State.pending_tryLine (s : State) (l : LineId) : (s.tryLine l).pending = s.pending := by
  unfold State.tryLine; (repeat' split) <;> simp
@[simp] theorem State.cycle_tryLine_other (s : State) (l : LineId) : (s.tryLine l).cycle.get l.other = s.cycle.get l.other := by
  unfold State.tryLine; (repeat' split) <;> simp

@[simp] theorem State.queue_moveBanks (s : State) (m : BankMap) : (s.moveBanks m).queue = s.queue := by
  rfl
@[simp] theorem State.line_moveBanks (s : State) (m : BankMap) : (s.moveBanks m).line = s.line := by
  rfl
@[simp] theorem State.engine_moveBanks (s : State) (m : BankMap) : (s.moveBanks m).engine = s.engine := by
  rfl
@[simp] theorem State.cycle_moveBanks (s : State) (m : BankMap) : (s.moveBanks m).cycle = s.cycle := by
  rfl
@[simp] theorem State.flags_moveBanks (s : State) (m : BankMap) : (s.moveBanks m).flags = s.flags := by
  rfl
@[simp] theorem State.pins_moveBanks (s : State) (m : BankMap) : (s.moveBanks m).pins = s.pins := by
  rfl
@[simp] theorem State.staged_moveBanks (s : State) (m : BankMap) : (s.moveBanks m).staged = s.staged := by
  rfl
@[simp] theorem State.applySet_moveBanks (s : State) (m : BankMap) : (s.moveBanks m).applySet = s.applySet := by
  rfl
@[simp] theorem State.port_moveBanks (s : State) (m : BankMap) : (s.moveBanks m).port = s.port := by
  rfl
@[simp] theorem State.samples_moveBanks (s : State) (m : BankMap) : (s.moveBanks m).samples = s.samples := by
  rfl
@[simp] theorem State.pending_moveBanks (s : State) (m : BankMap) : (s.moveBanks m).pending = s.pending := by
  rfl

@[simp] theorem State.queue_tryBanks (s : State) : (s.tryBanks).queue = s.queue := by
  unfold State.tryBanks; (repeat' split) <;> simp
@[simp] theorem State.line_tryBanks (s : State) : (s.tryBanks).line = s.line := by
  unfold State.tryBanks; (repeat' split) <;> simp
@[simp] theorem State.engine_tryBanks (s : State) : (s.tryBanks).engine = s.engine := by
  unfold State.tryBanks; (repeat' split) <;> simp
@[simp] theorem State.cycle_tryBanks (s : State) : (s.tryBanks).cycle = s.cycle := by
  unfold State.tryBanks; (repeat' split) <;> simp
@[simp] theorem State.pins_tryBanks (s : State) : (s.tryBanks).pins = s.pins := by
  unfold State.tryBanks; (repeat' split) <;> simp
@[simp] theorem State.staged_tryBanks (s : State) : (s.tryBanks).staged = s.staged := by
  unfold State.tryBanks; (repeat' split) <;> simp
@[simp] theorem State.port_tryBanks (s : State) : (s.tryBanks).port = s.port := by
  unfold State.tryBanks; (repeat' split) <;> simp
@[simp] theorem State.samples_tryBanks (s : State) : (s.tryBanks).samples = s.samples := by
  unfold State.tryBanks; (repeat' split) <;> simp
@[simp] theorem State.pending_tryBanks (s : State) : (s.tryBanks).pending = s.pending := by
  unfold State.tryBanks; (repeat' split) <;> simp

@[simp] theorem State.entries_finishSet (s : State) : (s.finishSet).entries = s.entries := by
  unfold State.finishSet; (repeat' split) <;> simp
@[simp] theorem State.queue_finishSet (s : State) : (s.finishSet).queue = s.queue := by
  unfold State.finishSet; (repeat' split) <;> simp
@[simp] theorem State.line_finishSet (s : State) : (s.finishSet).line = s.line := by
  unfold State.finishSet; (repeat' split) <;> simp
@[simp] theorem State.engine_finishSet (s : State) : (s.finishSet).engine = s.engine := by
  unfold State.finishSet; (repeat' split) <;> simp
@[simp] theorem State.cycle_finishSet (s : State) : (s.finishSet).cycle = s.cycle := by
  unfold State.finishSet; (repeat' split) <;> simp
@[simp] theorem State.pins_finishSet (s : State) : (s.finishSet).pins = s.pins := by
  unfold State.finishSet; (repeat' split) <;> simp
@[simp] theorem State.staged_finishSet (s : State) : (s.finishSet).staged = s.staged := by
  unfold State.finishSet; (repeat' split) <;> simp
@[simp] theorem State.applied_finishSet (s : State) : (s.finishSet).applied = s.applied := by
  unfold State.finishSet; (repeat' split) <;> simp
@[simp] theorem State.port_finishSet (s : State) : (s.finishSet).port = s.port := by
  unfold State.finishSet; (repeat' split) <;> simp
@[simp] theorem State.samples_finishSet (s : State) : (s.finishSet).samples = s.samples := by
  unfold State.finishSet; (repeat' split) <;> simp
@[simp] theorem State.pending_finishSet (s : State) : (s.finishSet).pending = s.pending := by
  unfold State.finishSet; (repeat' split) <;> simp

@[simp] theorem State.queue_notice (s : State) (l : LineId) : (s.notice l).queue = s.queue := by
  unfold State.notice; simp
@[simp] theorem State.line_notice (s : State) (l : LineId) : (s.notice l).line = s.line := by
  unfold State.notice; simp
@[simp] theorem State.engine_notice (s : State) (l : LineId) : (s.notice l).engine = s.engine := by
  unfold State.notice; simp
@[simp] theorem State.pins_notice (s : State) (l : LineId) : (s.notice l).pins = s.pins := by
  unfold State.notice; simp
@[simp] theorem State.staged_notice (s : State) (l : LineId) : (s.notice l).staged = s.staged := by
  unfold State.notice; simp
@[simp] theorem State.port_notice (s : State) (l : LineId) : (s.notice l).port = s.port := by
  unfold State.notice; simp
@[simp] theorem State.samples_notice (s : State) (l : LineId) : (s.notice l).samples = s.samples := by
  unfold State.notice; simp
@[simp] theorem State.pending_notice (s : State) (l : LineId) : (s.notice l).pending = s.pending := by
  unfold State.notice; simp
@[simp] theorem State.cycle_notice_other (s : State) (l : LineId) : (s.notice l).cycle.get l.other = s.cycle.get l.other := by
  unfold State.notice; simp

@[simp] theorem State.queue_applyStaged (s : State) : (s.applyStaged).queue = s.queue := by
  unfold State.applyStaged; simp
@[simp] theorem State.line_applyStaged (s : State) : (s.applyStaged).line = s.line := by
  unfold State.applyStaged; simp
@[simp] theorem State.engine_applyStaged (s : State) : (s.applyStaged).engine = s.engine := by
  unfold State.applyStaged; simp
@[simp] theorem State.pins_applyStaged (s : State) : (s.applyStaged).pins = s.pins := by
  unfold State.applyStaged; simp
@[simp] theorem State.staged_applyStaged (s : State) : (s.applyStaged).staged = s.staged := by
  unfold State.applyStaged; simp
@[simp] theorem State.port_applyStaged (s : State) : (s.applyStaged).port = s.port := by
  unfold State.applyStaged; simp
@[simp] theorem State.samples_applyStaged (s : State) : (s.applyStaged).samples = s.samples := by
  unfold State.applyStaged; simp
@[simp] theorem State.pending_applyStaged (s : State) : (s.applyStaged).pending = s.pending := by
  unfold State.applyStaged; simp

/-! ### Line states -/

@[simp] theorem State.pins_detachLine (s : State) (l : LineId) : (s.detachLine l).pins = s.pins := by
  unfold State.detachLine; split <;> simp
@[simp] theorem State.staged_detachLine (s : State) (l : LineId) : (s.detachLine l).staged = s.staged := by
  unfold State.detachLine; split <;> simp
@[simp] theorem State.port_detachLine (s : State) (l : LineId) : (s.detachLine l).port = s.port := by
  unfold State.detachLine; split <;> simp
@[simp] theorem State.samples_detachLine (s : State) (l : LineId) : (s.detachLine l).samples = s.samples := by
  unfold State.detachLine; split <;> simp
@[simp] theorem State.pending_detachLine (s : State) (l : LineId) : (s.detachLine l).pending = s.pending := by
  unfold State.detachLine; split <;> simp
@[simp] theorem State.line_detachLine_other (s : State) (l : LineId) : (s.detachLine l).line.get l.other = s.line.get l.other := by
  unfold State.detachLine; split <;> simp
@[simp] theorem State.engine_detachLine_other (s : State) (l : LineId) : (s.detachLine l).engine.get l.other = s.engine.get l.other := by
  unfold State.detachLine; split <;> simp
@[simp] theorem State.cycle_detachLine_other (s : State) (l : LineId) : (s.detachLine l).cycle.get l.other = s.cycle.get l.other := by
  unfold State.detachLine; split <;> simp

@[simp] theorem State.line_emptyAll (s : State) : (s.emptyAll).line = s.line := by
  rfl
@[simp] theorem State.engine_emptyAll (s : State) : (s.emptyAll).engine = s.engine := by
  rfl
@[simp] theorem State.cycle_emptyAll (s : State) : (s.emptyAll).cycle = s.cycle := by
  rfl
@[simp] theorem State.flags_emptyAll (s : State) : (s.emptyAll).flags = s.flags := by
  rfl
@[simp] theorem State.pins_emptyAll (s : State) : (s.emptyAll).pins = s.pins := by
  rfl
@[simp] theorem State.staged_emptyAll (s : State) : (s.emptyAll).staged = s.staged := by
  rfl
@[simp] theorem State.applied_emptyAll (s : State) : (s.emptyAll).applied = s.applied := by
  rfl
@[simp] theorem State.applySet_emptyAll (s : State) : (s.emptyAll).applySet = s.applySet := by
  rfl
@[simp] theorem State.port_emptyAll (s : State) : (s.emptyAll).port = s.port := by
  rfl
@[simp] theorem State.samples_emptyAll (s : State) : (s.emptyAll).samples = s.samples := by
  rfl
@[simp] theorem State.pending_emptyAll (s : State) : (s.emptyAll).pending = s.pending := by
  rfl

@[simp] theorem State.pins_clearPart (s : State) : (s.clearPart).pins = s.pins := by
  unfold State.clearPart; (repeat' split) <;> simp
@[simp] theorem State.staged_clearPart (s : State) : (s.clearPart).staged = s.staged := by
  unfold State.clearPart; (repeat' split) <;> simp
@[simp] theorem State.port_clearPart (s : State) : (s.clearPart).port = s.port := by
  unfold State.clearPart; (repeat' split) <;> simp
@[simp] theorem State.samples_clearPart (s : State) : (s.clearPart).samples = s.samples := by
  unfold State.clearPart; (repeat' split) <;> simp
@[simp] theorem State.pending_clearPart (s : State) : (s.clearPart).pending = s.pending := by
  unfold State.clearPart; (repeat' split) <;> simp

@[simp] theorem State.entries_startJoin (s : State) (l : LineId) : (s.startJoin l).entries = s.entries := by
  rfl
@[simp] theorem State.queue_startJoin (s : State) (l : LineId) : (s.startJoin l).queue = s.queue := by
  rfl
@[simp] theorem State.cycle_startJoin (s : State) (l : LineId) : (s.startJoin l).cycle = s.cycle := by
  rfl
@[simp] theorem State.flags_startJoin (s : State) (l : LineId) : (s.startJoin l).flags = s.flags := by
  rfl
@[simp] theorem State.pins_startJoin (s : State) (l : LineId) : (s.startJoin l).pins = s.pins := by
  rfl
@[simp] theorem State.staged_startJoin (s : State) (l : LineId) : (s.startJoin l).staged = s.staged := by
  rfl
@[simp] theorem State.applied_startJoin (s : State) (l : LineId) : (s.startJoin l).applied = s.applied := by
  rfl
@[simp] theorem State.applySet_startJoin (s : State) (l : LineId) : (s.startJoin l).applySet = s.applySet := by
  rfl
@[simp] theorem State.port_startJoin (s : State) (l : LineId) : (s.startJoin l).port = s.port := by
  rfl
@[simp] theorem State.samples_startJoin (s : State) (l : LineId) : (s.startJoin l).samples = s.samples := by
  rfl
@[simp] theorem State.pending_startJoin (s : State) (l : LineId) : (s.startJoin l).pending = s.pending := by
  rfl
@[simp] theorem State.line_startJoin_other (s : State) (l : LineId) : (s.startJoin l).line.get l.other = s.line.get l.other := by
  unfold State.startJoin; simp
@[simp] theorem State.engine_startJoin_other (s : State) (l : LineId) : (s.startJoin l).engine.get l.other = s.engine.get l.other := by
  unfold State.startJoin; simp

@[simp] theorem State.pins_completeJoin (s : State) (l : LineId) : (s.completeJoin l).pins = s.pins := by
  unfold State.completeJoin; simp
@[simp] theorem State.staged_completeJoin (s : State) (l : LineId) : (s.completeJoin l).staged = s.staged := by
  unfold State.completeJoin; simp
@[simp] theorem State.applied_completeJoin (s : State) (l : LineId) : (s.completeJoin l).applied = s.applied := by
  unfold State.completeJoin; simp
@[simp] theorem State.applySet_completeJoin (s : State) (l : LineId) : (s.completeJoin l).applySet = s.applySet := by
  unfold State.completeJoin; simp
@[simp] theorem State.port_completeJoin (s : State) (l : LineId) : (s.completeJoin l).port = s.port := by
  unfold State.completeJoin; simp
@[simp] theorem State.samples_completeJoin (s : State) (l : LineId) : (s.completeJoin l).samples = s.samples := by
  unfold State.completeJoin; simp
@[simp] theorem State.pending_completeJoin (s : State) (l : LineId) : (s.completeJoin l).pending = s.pending := by
  unfold State.completeJoin; simp
@[simp] theorem State.line_completeJoin_other (s : State) (l : LineId) : (s.completeJoin l).line.get l.other = s.line.get l.other := by
  unfold State.completeJoin; simp
@[simp] theorem State.engine_completeJoin_other (s : State) (l : LineId) : (s.completeJoin l).engine.get l.other = s.engine.get l.other := by
  unfold State.completeJoin; simp
@[simp] theorem State.cycle_completeJoin_other (s : State) (l : LineId) : (s.completeJoin l).cycle.get l.other = s.cycle.get l.other := by
  unfold State.completeJoin; simp

@[simp] theorem State.pins_endRecovery (s : State) (l : LineId) : (s.endRecovery l).pins = s.pins := by
  unfold State.endRecovery; dsimp only; split <;> simp
@[simp] theorem State.staged_endRecovery (s : State) (l : LineId) : (s.endRecovery l).staged = s.staged := by
  unfold State.endRecovery; dsimp only; split <;> simp
@[simp] theorem State.port_endRecovery (s : State) (l : LineId) : (s.endRecovery l).port = s.port := by
  unfold State.endRecovery; dsimp only; split <;> simp
@[simp] theorem State.samples_endRecovery (s : State) (l : LineId) : (s.endRecovery l).samples = s.samples := by
  unfold State.endRecovery; dsimp only; split <;> simp
@[simp] theorem State.pending_endRecovery (s : State) (l : LineId) : (s.endRecovery l).pending = s.pending := by
  unfold State.endRecovery; dsimp only; split <;> simp
@[simp] theorem State.line_endRecovery_other (s : State) (l : LineId) : (s.endRecovery l).line.get l.other = s.line.get l.other := by
  unfold State.endRecovery; dsimp only; split <;> simp
@[simp] theorem State.engine_endRecovery_other (s : State) (l : LineId) : (s.endRecovery l).engine.get l.other = s.engine.get l.other := by
  unfold State.endRecovery; dsimp only; split <;> simp
@[simp] theorem State.cycle_endRecovery_other (s : State) (l : LineId) : (s.endRecovery l).cycle.get l.other = s.cycle.get l.other := by
  unfold State.endRecovery; dsimp only; split <;> simp

@[simp] theorem State.pins_recoveryStep (s : State) (l : LineId) : (s.recoveryStep l).pins = s.pins := by
  unfold State.recoveryStep; dsimp only; split <;> simp
@[simp] theorem State.staged_recoveryStep (s : State) (l : LineId) : (s.recoveryStep l).staged = s.staged := by
  unfold State.recoveryStep; dsimp only; split <;> simp
@[simp] theorem State.port_recoveryStep (s : State) (l : LineId) : (s.recoveryStep l).port = s.port := by
  unfold State.recoveryStep; dsimp only; split <;> simp
@[simp] theorem State.samples_recoveryStep (s : State) (l : LineId) : (s.recoveryStep l).samples = s.samples := by
  unfold State.recoveryStep; dsimp only; split <;> simp
@[simp] theorem State.pending_recoveryStep (s : State) (l : LineId) : (s.recoveryStep l).pending = s.pending := by
  unfold State.recoveryStep; dsimp only; split <;> simp
@[simp] theorem State.line_recoveryStep_other (s : State) (l : LineId) : (s.recoveryStep l).line.get l.other = s.line.get l.other := by
  unfold State.recoveryStep; dsimp only; split <;> simp
@[simp] theorem State.engine_recoveryStep_other (s : State) (l : LineId) : (s.recoveryStep l).engine.get l.other = s.engine.get l.other := by
  unfold State.recoveryStep; dsimp only; split <;> simp
@[simp] theorem State.cycle_recoveryStep_other (s : State) (l : LineId) : (s.recoveryStep l).cycle.get l.other = s.cycle.get l.other := by
  unfold State.recoveryStep; dsimp only; split <;> simp

@[simp] theorem State.pins_idleSequenceOn (s : State) (l : LineId) : (s.idleSequenceOn l).pins = s.pins := by
  unfold State.idleSequenceOn; split <;> simp
@[simp] theorem State.staged_idleSequenceOn (s : State) (l : LineId) : (s.idleSequenceOn l).staged = s.staged := by
  unfold State.idleSequenceOn; split <;> simp
@[simp] theorem State.port_idleSequenceOn (s : State) (l : LineId) : (s.idleSequenceOn l).port = s.port := by
  unfold State.idleSequenceOn; split <;> simp
@[simp] theorem State.samples_idleSequenceOn (s : State) (l : LineId) : (s.idleSequenceOn l).samples = s.samples := by
  unfold State.idleSequenceOn; split <;> simp
@[simp] theorem State.pending_idleSequenceOn (s : State) (l : LineId) : (s.idleSequenceOn l).pending = s.pending := by
  unfold State.idleSequenceOn; split <;> simp
@[simp] theorem State.line_idleSequenceOn_other (s : State) (l : LineId) : (s.idleSequenceOn l).line.get l.other = s.line.get l.other := by
  unfold State.idleSequenceOn; split <;> simp
@[simp] theorem State.engine_idleSequenceOn_other (s : State) (l : LineId) : (s.idleSequenceOn l).engine.get l.other = s.engine.get l.other := by
  unfold State.idleSequenceOn; split <;> simp
@[simp] theorem State.cycle_idleSequenceOn_other (s : State) (l : LineId) : (s.idleSequenceOn l).cycle.get l.other = s.cycle.get l.other := by
  unfold State.idleSequenceOn; split <;> simp

end Sys2Proof.Machine
end

