-- ==== Sys2Proof/Laws/Requests.lean ====
section
/-! SUPPORT. Laws/Requests: how operands are read, what a taken request's answer makes of the state, and what no request reaches. -/

namespace Sys2Proof.Machine

/-! ### Operands -/

theorem indexOperand_none {b : Byte} (h : 64 ≤ b.toNat) : indexOperand b = none := by
  unfold indexOperand; rw [dif_neg (by omega)]

theorem indexOperand_names {b : Byte} {i : Index} (h : Safety.Names b i) : indexOperand b = some i := by
  have hb : b.toNat < 64 := by rw [h]; exact i.isLt
  unfold indexOperand
  rw [dif_pos hb]
  exact congrArg some (Fin.ext h)

theorem lineOperand_none {b : Byte} (h : 1 < b.toNat) : lineOperand b = none := by
  unfold lineOperand
  split <;> first | omega | rfl

theorem lineOperand_names {b : Byte} {l : LineId} (h : Safety.NamesLine b l) : lineOperand b = some l := by
  unfold lineOperand
  cases l <;> simp [h, lineNumber]

/-- A 16-bit field read back from its two bytes. -/
theorem word16_bytes (w : BitVec 16) : word16 (w.extractLsb' 8 8) (w.extractLsb' 0 8) = w := by
  apply BitVec.eq_of_toNat_eq
  have hw := w.isLt
  simp only [word16, BitVec.toNat_append, BitVec.extractLsb'_toNat, Nat.shiftLeft_eq, Nat.shiftRight_eq_div_pow]
  rw [← Nat.shiftLeft_eq, ← Nat.shiftLeft_add_eq_or_of_lt (by omega), Nat.shiftLeft_eq]
  omega

/-- Equality of optional values as a Bool. -/
theorem beq_value (a b : Option Value) : (a == b) = decide (a = b) := by
  by_cases h : a = b <;> simp [h]

/-! ### The lowest index -/

/-- A search over the positions answers the lowest index that passes. -/
theorem find_indices_some (p : Index → Bool) (i : Index) :
    indices.find? p = some i ↔ p i = true ∧ ∀ j, p j = true → i ≤ j := by
  constructor
  · intro h
    refine ⟨List.find?_some h, fun j hj => ?_⟩
    rw [List.find?_eq_some_iff_getElem] at h
    obtain ⟨_, k, hk, he, hlt⟩ := h
    by_contra hji
    have hki : k = i.val := by
      have := congrArg Fin.val he
      simpa [indices] using this
    have hjk : j.val < k := by
      have : j < i := not_le.mp hji
      rw [hki]; exact this
    have := hlt j.val hjk
    simp [indices, hj] at this
  · rintro ⟨hp, hmin⟩
    cases h : indices.find? p with
    | none =>
      rw [List.find?_eq_none] at h
      exact absurd hp (h i (List.mem_finRange i))
    | some k =>
      have hk := List.find?_some h
      have hik := hmin k hk
      rw [List.find?_eq_some_iff_getElem] at h
      obtain ⟨_, m, hm, he, hlt⟩ := h
      congr 1
      apply le_antisymm _ hik
      by_contra hki
      have hmk : m = k.val := by
        have := congrArg Fin.val he
        simpa [indices] using this
      have him : i.val < m := by rw [hmk]; exact not_le.mp hki
      have := hlt i.val him
      simp [indices, hp] at this

theorem find_indices_none (p : Index → Bool) : indices.find? p = none ↔ ∀ i, p i = false := by
  simp [List.find?_eq_none]

/-! ### Answers -/

/-- Every request of the host is one transaction of the port (R172, R173). -/
theorem exec_request (c : Instr) (r : Request) (n : Nat) (s : State) (h : Safety.requestOf c = some (r, n)) :
    exec c s = .next (s.hostRequest r n) := by
  cases c <;> simp only [Safety.requestOf, Option.some.injEq, Prod.mk.injEq, reduceCtorEq] at h <;>
    obtain ⟨rfl, rfl⟩ := h <;> rfl

/-- A taken request runs on the state whose response has been shifted out, and its answer is held (R171, R173). -/
theorem State.hostRequest_taken (s : State) (r : Request) (n : Nat) (h : Safety.Taken s r n) :
    s.hostRequest r n =
      (runRequest r (s.shift (8 * (r.length + n)))).1.hold
        ((runRequest r (s.shift (8 * (r.length + n)))).2.response r.responseLength) := by
  obtain ⟨⟨h1, h2⟩, h3⟩ := h
  have hl : r.length + n = (s.shift (8 * (r.length + n))).requiredLength r.length := h3
  simp only [State.hostRequest, State.transaction, h1, h2, Bool.false_eq_true, if_false, if_pos hl, takeRequest]

/-- The answer of a taken request, when what its block does to the shifted state is known. -/
theorem exec_answered (c : Instr) (r : Request) (n : Nat) (s y : State) (status : Status) (result held : List Byte)
    (hc : Safety.requestOf c = some (r, n)) (h : Safety.Taken s r n)
    (hy : runRequest r (s.shift (8 * (r.length + n))) =
      (y.withPort (s.shift (8 * (r.length + n))).port, ⟨status, result⟩))
    (hr : held = (Answer.response ⟨status, result⟩ r.responseLength).result) :
    exec c s = .next (Safety.answered s y r n status held) := by
  rw [exec_request c r n s hc, State.hostRequest_taken s r n h, hy]
  subst hr
  rfl

theorem valueBytes_length (v : Option Value) : (valueBytes v).length = 8 := by
  unfold valueBytes
  simp only [List.length_append, List.length_take, List.length_replicate]
  omega

/-- R28: the entry view is 45 bytes. -/
theorem State.entryView_length (s : State) (i : Index) : (s.entryView i).length = 45 := by
  unfold State.entryView
  cases s.entry i <;> simp [causeBytes, tagBytes, bytes16, valueBytes_length]

/-! ### What no request reaches -/

@[simp] theorem port_takeHead (s : State) (i : Index) (rest : List Index) : (s.takeHead i rest).port = s.port := by
  unfold State.takeHead; split <;> simp

theorem port_runRequest (r : Request) (s : State) : (runRequest r s).1.port = s.port := by
  cases r <;>
    simp only [runRequest, requestNop, requestClaim, requestRetire, requestRead, requestLookup, requestSet, requestPublish, requestHold, requestRelease, requestAsk, requestTake, requestEvents, requestAckEvents, requestLine, requestAttach, requestDetach, requestSettingWrite, requestSettingRead, requestApply, requestClear] <;>
    (repeat' split) <;> simp

@[simp] theorem samples_takeHead (s : State) (i : Index) (rest : List Index) : (s.takeHead i rest).samples = s.samples := by
  unfold State.takeHead; split <;> simp

theorem samples_runRequest (r : Request) (s : State) : (runRequest r s).1.samples = s.samples := by
  cases r <;>
    simp only [runRequest, requestNop, requestClaim, requestRetire, requestRead, requestLookup, requestSet, requestPublish, requestHold, requestRelease, requestAsk, requestTake, requestEvents, requestAckEvents, requestLine, requestAttach, requestDetach, requestSettingWrite, requestSettingRead, requestApply, requestClear] <;>
    (repeat' split) <;> simp

@[simp] theorem pending_takeHead (s : State) (i : Index) (rest : List Index) : (s.takeHead i rest).pending = s.pending := by
  unfold State.takeHead; split <;> simp

theorem pending_runRequest (r : Request) (s : State) : (runRequest r s).1.pending = s.pending := by
  cases r <;>
    simp only [runRequest, requestNop, requestClaim, requestRetire, requestRead, requestLookup, requestSet, requestPublish, requestHold, requestRelease, requestAsk, requestTake, requestEvents, requestAckEvents, requestLine, requestAttach, requestDetach, requestSettingWrite, requestSettingRead, requestApply, requestClear] <;>
    (repeat' split) <;> simp

end Sys2Proof.Machine
end

