-- ==== Sys2Proof/Laws/Lines.lean ====
section
/-! SUPPORT. Laws/Lines: what the line controllers' conditions say, and what counts, reports, usability and notices give. -/

namespace Sys2Proof.Machine

/-! ### Conditions -/

theorem participates_iff (s : State) (l : LineId) :
    s.participates l = true ↔ (s.line.get l).state = .active ∨ (s.line.get l).state = .guarded := by
  unfold State.participates LineState.participates
  cases (s.line.get l).state <;> simp

/-- R102, R103: a line that can receive takes part and has no frame copied. -/
theorem canReceive_iff (s : State) (l : LineId) :
    s.canReceive l = true ↔ s.participates l = true ∧ (s.line.get l).attempt = none ∧
      ((∃ b, s.engine.get l = .receiving b) ∨ (∃ n, s.engine.get l = .intermission n) ∨ ∃ n, s.engine.get l = .idle n) := by
  unfold State.canReceive
  cases s.participates l <;> cases s.engine.get l <;> cases (s.line.get l).attempt <;> simp

/-- R133: the conditions of a selection. -/
theorem canSelect_iff (s : State) (l : LineId) :
    s.canSelect l = true ↔
      s.participates l = true ∧ (s.line.get l).attempt = none ∧ ∃ n, s.engine.get l = .idle n := by
  unfold State.canSelect
  cases s.participates l <;> cases s.engine.get l <;> cases (s.line.get l).attempt <;> simp

/-- A line's sending attempt is the one in its buffer. -/
theorem sendingAttempt_iff (s : State) (l : LineId) (a : Attempt) :
    s.sendingAttempt l = some a ↔ s.participates l = true ∧ (s.line.get l).attempt = some a ∧
      ((∃ n, s.engine.get l = .idle n) ∨ ∃ b, s.engine.get l = .sending b) := by
  unfold State.sendingAttempt
  cases s.participates l <;> cases s.engine.get l <;> cases (s.line.get l).attempt <;> simp

/-! ### Counts -/

/-- R125: on a line that takes part, a change of the counts settles the line state by the counts alone. -/
theorem LineCtl.settle_counted (c : LineCtl) (t r : Nat) (h : c.state = .active ∨ c.state = .guarded) :
    ({ c with transmitCount := t, receiveCount := r } : LineCtl).settle = Safety.counted c t r := by
  unfold LineCtl.settle Safety.counted Safety.stateFor
  rcases h with h | h <;> by_cases h1 : 100 ≤ t <;> by_cases h2 : 100 ≤ r <;>
    simp [h, h1, h2, Config.guardedLevel]

theorem State.line_withCounts (s : State) (l : LineId) (t r : Nat) (h : s.participates l = true) :
    (s.withCounts l t r).line.get l = Safety.counted (s.line.get l) t r := by
  unfold State.withCounts
  simp [LineCtl.settle_counted _ t r ((participates_iff s l).mp h)]

/-- R125, R127: the flags a change of the counts raises. -/
theorem State.flag_withCounts (s : State) (l : LineId) (t r : Nat) (f : EventFlag) (h : s.participates l = true) :
    (s.withCounts l t r).flag f = (s.flag f || Safety.countFlags s l t r f) := by
  unfold State.withCounts
  simp only [State.flag_raiseIf _ _ _ _ (show EventFlag.ofLine l .caution ≠ .queueReady by simp),
    State.flag_raiseIf _ _ _ _ (show EventFlag.ofLine l .lineState ≠ .queueReady by simp), State.flag_withLine,
    LineCtl.settle_counted _ t r ((participates_iff s l).mp h)]
  have hs : ∀ x y : LineState, (x != y) = (y != x) := by intro x y; cases x <;> cases y <;> rfl
  simp only [Safety.countFlags, Safety.crosses, Safety.counted, LineCtl.larger,
    hs (Safety.stateFor t r) (s.line.get l).state, Bool.and_comm, Bool.or_assoc]
  rfl

theorem State.participates_withCounts (s : State) (l : LineId) (t r : Nat) (h : s.participates l = true) :
    (s.withCounts l t r).participates l = true := by
  rw [participates_iff, State.line_withCounts s l t r h]
  unfold Safety.counted Safety.stateFor
  by_cases hc : 100 ≤ t ∨ 100 ≤ r <;> simp [hc]

/-! ### Frames received -/

/-- R109: a legal frame on a line that can receive. -/
theorem State.receiveFrame_legal (s : State) (l : LineId) (w : WireFrame) (h : s.canReceive l = true)
    (hw : w.legal = true) :
    s.receiveFrame l w = (s.withEngine l (.intermission 0)).takeFrame l w := by
  unfold State.receiveFrame; rw [if_pos h, if_pos hw]

/-- R96: a frame that is not legal. -/
theorem State.receiveFrame_illegal (s : State) (l : LineId) (w : WireFrame) (h : s.canReceive l = true)
    (hw : w.legal = false) : s.receiveFrame l w = (s.receiveErrorOn l .form).judgePins := by
  unfold State.receiveFrame; rw [if_pos h, hw]; rfl

/-- R102, R103, R132: a line never both receives and has a frame in flight. -/
theorem sendingAttempt_of_canReceive (s : State) (l : LineId) (h : s.canReceive l = true) :
    s.sendingAttempt l = none := by
  have hb := ((canReceive_iff s l).mp h).2.1
  cases hs : s.sendingAttempt l with
  | none => rfl
  | some a => rw [((sendingAttempt_iff s l a).mp hs).2.1] at hb; exact absurd hb (by simp)

theorem canReceive_of_sendingAttempt (s : State) (l : LineId) (h : s.sendingAttempt l ≠ none) :
    s.canReceive l = false := by
  cases hr : s.canReceive l with
  | false => rfl
  | true => exact absurd (sendingAttempt_of_canReceive s l hr) h

theorem queriedInFlight_iff (s : State) (l : LineId) (w : WireFrame) :
    s.queriedInFlight l w = true ↔ s.sendingAttempt l ≠ none ∧ w.kind = 1 ∧ w.legal = true := by
  unfold State.queriedInFlight
  simp [Option.isSome_iff_ne_none, and_assoc]

/-- R69, R84: a query taken while a frame of this part is in flight on the line. -/
theorem State.receiveFrame_inFlight (s : State) (l : LineId) (w : WireFrame) (h : s.queriedInFlight l w = true) :
    s.receiveFrame l w = s.takeFrame l w := by
  unfold State.receiveFrame
  rw [canReceive_of_sendingAttempt s l ((queriedInFlight_iff s l w).mp h).1, h]; rfl

theorem State.receiveFrame_none (s : State) (l : LineId) (w : WireFrame) (h : s.canReceive l = false)
    (hq : s.queriedInFlight l w = false) : s.receiveFrame l w = s := by
  unfold State.receiveFrame; rw [h, hq]; rfl

/-- R109, R124: the line, counted; the engine and the buffer are not the count's. -/
theorem State.line_takeFrame (s : State) (l : LineId) (w : WireFrame) (h : s.participates l = true) :
    (s.takeFrame l w).line.get l =
      Safety.counted (s.line.get l) (s.line.get l).transmitCount ((s.line.get l).receiveCount - 1) := by
  unfold State.takeFrame State.countReception
  simp [State.line_withCounts s l _ _ h]

/-! ### Usability and outcomes -/

/-- R141: an unchanged usability delivers nothing. -/
theorem State.deliverUsability_same (s : State) (l : LineId) (b : Bool) (h : s.usable l = b) :
    s.deliverUsability l b = s := by
  unfold State.deliverUsability
  rw [h]; cases b <;> rfl

theorem State.deliverUsability_lost (s : State) (l : LineId) (h : s.usable l = false) :
    s.deliverUsability l true = s.freezeLine l := by
  unfold State.deliverUsability; rw [h]

theorem State.deliverUsability_gained (s : State) (l : LineId) (h : s.usable l = true) :
    s.deliverUsability l false = s.thawLine l := by
  unfold State.deliverUsability; rw [h]

/-- R44: every entry after a loss of usability. -/
theorem State.entry_freezeLine (s : State) (l : LineId) (i : Index) :
    (s.freezeLine l).entry i = (s.entry i).map fun e => if s.home i = l then e.freeze.result e else e := by
  unfold State.freezeLine
  rw [State.entry_react]
  congr 1; funext e
  by_cases h : s.home i = l <;> simp [h]

/-- R45: every entry after a gain of usability. -/
theorem State.entry_thawLine (s : State) (l : LineId) (i : Index) :
    (s.thawLine l).entry i = (s.entry i).map fun e => if s.home i = l then e.thaw.result e else e := by
  unfold State.thawLine
  rw [State.entry_react]
  congr 1; funext e
  by_cases h : s.home i = l <;> simp [h]

/-- R6: an outcome reported for one entry leaves every other entry alone. -/
theorem State.entry_reportToEntry_ne (s : State) (l : LineId) (i j : Index) (a : Attempt) (x : Ending) (h : j ≠ i) :
    (s.reportToEntry l i a x).entry j = s.entry j := by
  unfold State.reportToEntry
  split
  · rfl
  · split
    · split
      · split
        · rw [State.entry_emptyEntry, if_neg h]
        · rw [State.entry_setEntry, if_neg h]
      · unfold State.reactAt
        rw [State.entry_react]
        cases s.entry j <;> simp [h]
    · rfl

/-- R6: a report that names a line on which the entry has nothing in flight has no effect. -/
theorem State.reportToEntry_grounded (s : State) (l : LineId) (i : Index) (e : Entry) (a : Attempt) (x : Ending)
    (he : s.entry i = some e) (h : e.inFlight.get l = false) : s.reportToEntry l i a x = s := by
  unfold State.reportToEntry
  simp only [he, h]; rfl

/-- R6, R136: the entry after an outcome, when it is not RETIRING. -/
theorem State.entry_reportToEntry (s : State) (l : LineId) (i : Index) (e : Entry) (a : Attempt) (x : Ending)
    (he : s.entry i = some e) (h : e.inFlight.get l = true) (hr : e.state ≠ .retiring) :
    (s.reportToEntry l i a x).entry i = some (((e.landed l).outcome a x (s.stampNow l)).result e) := by
  unfold State.reportToEntry
  simp only [he, h, if_true, if_neg hr]
  unfold State.reactAt
  rw [State.entry_react, he]
  simp

/-- R16: a RETIRING entry empties at the end of its last attempt. -/
theorem State.entry_reportToEntry_retiring (s : State) (l : LineId) (i : Index) (e : Entry) (a : Attempt) (x : Ending)
    (he : s.entry i = some e) (h : e.inFlight.get l = true) (hr : e.state = .retiring) :
    (s.reportToEntry l i a x).entry i = if (e.landed l).grounded then none else some (e.landed l) := by
  unfold State.reportToEntry
  simp only [he, h, if_true, if_pos hr]
  split
  · rw [State.entry_emptyEntry, if_pos rfl]
  · rw [State.entry_setEntry, if_pos rfl]

/-- R6, R16, R52, R76, R82: every entry after a report of anything but a success. -/
theorem State.entry_report_ended (s : State) (l : LineId) (a : Attempt) (x : Ending) (hx : x ≠ .success) (i : Index) :
    (s.report l a x).entry i = (s.entry i).bind fun e =>
      if Safety.ownerEntry (some a) = some i ∧ e.inFlight.get l = true then
        if e.state = .retiring ∧ e.inFlight.get l.other = false then none else some (e.landed l)
      else some e := by
  have hc : ∀ a, s.reportToCycleUnit l a x = s := by
    intro a; unfold State.reportToCycleUnit; cases x <;> first | rfl | exact absurd rfl hx
  have hg : ∀ e : Entry, (e.landed l).grounded = !e.inFlight.get l.other := by
    intro e; cases l <;> simp [Entry.landed, Entry.grounded, PerLine.set, PerLine.get, LineId.other]
  have key : ∀ j, (s.reportToEntry l j a x).entry i = (s.entry i).bind fun e =>
      if some j = some i ∧ e.inFlight.get l = true then
        if e.state = .retiring ∧ e.inFlight.get l.other = false then none else some (e.landed l)
      else some e := by
    intro j
    by_cases hj : i = j
    · subst hj
      cases he : s.entry i with
      | none => unfold State.reportToEntry; simp [he]
      | some e =>
        cases hf : e.inFlight.get l with
        | false => rw [State.reportToEntry_grounded s l i e a x he hf, he]; simp [hf]
        | true =>
          by_cases hr : e.state = .retiring
          · rw [State.entry_reportToEntry_retiring s l i e a x he hf hr, hg]
            cases ho : e.inFlight.get l.other <;> simp [hf, hr, ho]
          · rw [State.entry_reportToEntry s l i e a x he hf hr]
            have : (e.landed l).outcome a x (s.stampNow l) = (e.landed l).unchanged := by
              unfold Entry.outcome; cases x <;> first | rfl | exact absurd rfl hx
            rw [this]
            simp [hf, hr, Reaction.result, Entry.unchanged]
    · rw [State.entry_reportToEntry_ne s l j i a x hj]
      cases s.entry i <;> simp [Ne.symm hj]
  rcases a with ⟨o, f⟩
  cases o with
  | beacon =>
    show (s.reportToCycleUnit l _ x).entry i = _
    rw [hc]; cases s.entry i <;> simp [Safety.ownerEntry]
  | publish j => exact key j
  | ask j => exact key j

/-! ### Notices -/

/-- R186: without a pending apply set a notice changes nothing. -/
theorem State.notice_none (s : State) (l : LineId) (h : s.applySet = none) : s.notice l = s := by
  unfold State.notice State.tryLine State.tryBanks State.finishSet
  simp only [h]

/-- R185: a set with a portion left waits on; one with none left ends with APPLY_DONE. -/
theorem State.finishSet_some (s : State) (p : ApplySet) (h : s.applySet = some p) :
    s.finishSet =
      if p.lineWaiting.a || p.lineWaiting.b || p.bankWaiting then s
      else (s.withApplySet none).raise .applyDone := by
  unfold State.finishSet
  simp only [h]

/-! ### Line bits -/

/-- R109: the command of a frame that was read is a command for exactly that frame. -/
theorem frameOf_frameCommand (l : LineId) (w : WireFrame) (h : w.legal = true) :
    Safety.frameOf (frameCommand l w) = some (l, w) := by
  have four : ∀ k : BitVec 2, k = 0 ∨ k = 1 ∨ k = 2 ∨ k = 3 := by decide
  rcases w with ⟨t, k, p⟩
  rcases four k with rfl | rfl | rfl | rfl
  · have ht : t = 0 ∧ p.length = 2 := by simpa [WireFrame.legal] using h
    obtain ⟨rfl, hl⟩ := ht
    match p, hl with
    | [address, cycle], _ =>
      by_cases hb : beaconInRange address cycle = true <;> simp [frameCommand, Safety.frameOf, hb]
  · have hp : p = [] := by simpa [WireFrame.legal] using h
    subst hp
    by_cases ht : t = 0#12 <;> simp [frameCommand, Safety.frameOf, ht]
  · by_cases ht : t = 0#12 <;> simp [frameCommand, Safety.frameOf, ht]
  · simp [WireFrame.legal] at h

/-- R94: a line bit taken on an empty queue. -/
theorem takesBit (s : State) (x : LineBit) :
    Safety.TakesBit s x (bitAt x.line (s.engine.get x.line) (s.line.get x.line).attempt x).phase
      (bitAt x.line (s.engine.get x.line) (s.line.get x.line).attempt x).reports := by
  intro rest hp ha hb hs
  unfold step
  rw [hp]
  simp only [State.idleStep, ha, hb, hs]
  simp [State.bit, State.withEngine, State.withPending, State.withSamples, hp]

end Sys2Proof.Machine
end

