-- ==== Sys2Proof/Tests/Slice0.lean ====
section
/-! SUPPORT. Tests/Slice0: ill-formed terms refused, one step of each command on a small state with the spec's numbers, and for each statement a state and operands that meet its hypotheses. -/

namespace Sys2Proof.Tests

open Sys2Proof.Machine Sys2Proof.Safety

/-! ### Small states -/

/-- A line that takes part, in ACTIVE. -/
def on (s : State) (l : LineId) : State := (s.withLine l { s.line.get l with state := .active }).withEngine l (.idle 0)

/-- A BEACONED line in SYNCED, in cycle 9. -/
def synced (s : State) (l : LineId) : State :=
  s.withCycle l { s.cycle.get l with sync := .synced, cycle := 9, watchTimer := .running 320000 }

/-- A line under CYCLE_MODE FREE. -/
def free (s : State) (l : LineId) : State :=
  (s.withApplied (s.applied.putLine l { s.applied.line.get l with cycleMode := .free })).withCycle l
    { s.cycle.get l with sync := .free }

/-- A line whose unit acts as SOURCE at address 5. -/
def source (s : State) (l : LineId) : State :=
  (s.withApplied (s.applied.putLine l { s.applied.line.get l with role := .source, nodeAddress := 5 })).withCycle l
    { s.cycle.get l with acting := .source, periodTimer := .running 160000 }

/-- A line sending a frame. -/
def busy (s : State) (l : LineId) (a : Attempt) : State :=
  (s.withLine l { s.line.get l with attempt := some a }).withEngine l (.sending [])

/-- The setpoint input of section 11.2, one boundary before it goes stale. -/
def inputE : Entry :=
  { Entry.blank .input 0x0C4 true with
    mask := 0xFFF, confirm := 2, refresh := 3, value := some [0x00, 0xC8], age := 2, stamp := some 12 }

/-- The command output of section 11.4. -/
def outputE : Entry := { Entry.blank .output 0x0F0 true with value := some [0x00] }

/-- The bridge of section 11.3. -/
def bridgeE : Entry :=
  { Entry.blank .bridge 0x2A0 true with
    mask := 0xFFF, outTag := 0x5A0, confirm := 1, answersRecall := true, value := some [0x07], stamp := some 6 }

/-- A node on Line A with an INPUT, an OUTPUT and a BRIDGE entry. -/
def node : State := (((synced (on .reset .a) .a).setEntry 0 inputE).setEntry 1 outputE).setEntry 2 bridgeE

/-- The node with both lines taking part. -/
def node2 : State := on node .b

/-- Entry 1's publish in flight on Line A. -/
def publishing : State :=
  busy (node.setEntry 1 { outputE with publishPending := true, inFlight := { a := true, b := false } }) .a
    { owner := .publish 1, frame := .data 0x0F0 [0x00] }

/-- Entry 1 RETIRING with its frame in flight. -/
def retiring : State :=
  publishing.setEntry 1 { outputE with state := .retiring, publishPending := true, inFlight := { a := true, b := false } }

/-- The state a command leads to. -/
def after (s : State) (c : Instr) : State :=
  match exec c s with
  | .next t => t
  | .fault f => nomatch f
  | .refused _ => s

/-- CLAIM operands of an OUTPUT entry with tag 0x0F0, ONE_SHOT and NOTIFY, as in section 11.4. -/
def claimOutput (selector : Byte) : ClaimOperands :=
  { selector := selector, kind := 2, tag := 0x00F0, mask := 0, outTag := 0, confirm := 0, refresh := 0, mode := 0,
    period := 0, phase := 0, options := 3 }

/-- CLAIM operands of an INPUT entry with tag 0x0C4 and an exact mask. -/
def claimInput (selector : Byte) : ClaimOperands :=
  { selector := selector, kind := 1, tag := 0x00C4, mask := 0x0FFF, outTag := 0, confirm := 1, refresh := 0, mode := 0,
    period := 0, phase := 0, options := 1 }

/-! ### Ill-formed terms -/

theorem test_wf_data_tag0 : (Instr.dataFrame .a 0 [1]).wf = false := by decide
theorem test_wf_data_length9 : (Instr.dataFrame .a 1 [0, 0, 0, 0, 0, 0, 0, 0, 0]).wf = false := by decide
theorem test_wf_query_tag0 : (Instr.queryFrame .a 0).wf = false := by decide
theorem test_wf_beacon_address : (Instr.beaconFrame .a 0 3).wf = false ∧ (Instr.beaconFrame .a 64 3).wf = false := by
  decide
theorem test_wf_beacon_cycle : (Instr.beaconFrame .a 1 16).wf = false := by decide
theorem test_wf_discarded_usable : (Instr.discardedFrame .a { tag := 1, kind := 2, payload := [] }).wf = false := by
  decide
theorem test_wf_discarded_illegal : (Instr.discardedFrame .a { tag := 1, kind := 3, payload := [] }).wf = false := by
  decide
theorem test_wf_receiver_kinds : (Instr.receiveError .a .bit).wf = false ∧ (Instr.receiveError .a .noAck).wf = false := by
  decide
theorem test_wf_sender_kinds : (Instr.transmitError .a .check).wf = false := by decide

/-- Well-formed terms at the ends of the ranges pass. -/
theorem test_wf_good :
    (Instr.dataFrame .a 0xFFF [0, 0, 0, 0, 0, 0, 0, 0]).wf = true ∧ (Instr.queryFrame .b 1).wf = true ∧
    (Instr.beaconFrame .a 1 15).wf = true ∧ (Instr.beaconFrame .a 63 0).wf = true ∧
    (Instr.discardedFrame .a { tag := 0, kind := 0, payload := [0, 3] }).wf = true ∧
    (Instr.discardedFrame .a { tag := 0, kind := 2, payload := [] }).wf = true ∧
    (Instr.receiveError .a .check).wf = true ∧ (Instr.transmitError .a .noAck).wf = true := by decide

/-! ### The words of the host port and of a field line -/

/-- "Request codes and lengths": a SET of entry 3 to [2A]; a CLAIM of entry 52 as in section 11.4; ACK_EVENTS. -/
theorem test_request_bytes :
    decodeRequest [0x20, 3, 1, 0x2A, 0, 0, 0, 0, 0, 0, 0] = some (.set 3 1 #v[0x2A, 0, 0, 0, 0, 0, 0, 0]) ∧
    decodeRequest [0x10, 52, 2, 0x00, 0xF0, 0, 0, 0, 0, 0, 0, 0, 0, 0, 3] = some (.claim (claimOutput 52)) ∧
    decodeRequest [0x32, 1, 2, 4] = some (.ackEvents 1 2 4) ∧ decodeRequest [0x30, 0, 0, 0] = some .take ∧
    decodeRequest [0x01] = none ∧ decodeRequest [0x12] = none := by decide

/-- R95, R98: the paced region of a QUERY for tag 0x0F0 begins with its tag, kind 01 and length 0, a pace bit after each
eighth bit. -/
theorem test_region_bits :
    (regionBits { tag := 0x0F0, kind := 1, payload := [] }).take 20 =
      [false, false, false, false, true, true, true, true, false, false, false, false, false, false, true, false, false,
        true, false, false] ∧
    (regionBits { tag := 0x0F0, kind := 1, payload := [] }).length = regionLength 0 := by decide

/-! ### Resets and transactions -/

theorem test_powerOn : after publishing .powerOn = .reset := by decide
theorem test_nrstAssert : (after node .nrstAssert).port.inReset = true ∧ (after node .nrstAssert).entry 0 = none := by
  decide
theorem test_nrstRelease : (after (after node .nrstAssert) (.nrstRelease true)).port.awaitRise = true := by decide
theorem test_emptyTransaction : after node .emptyTransaction = node := by decide
theorem test_transactionRejected :
    (after node (.transactionRejected [0x30] 3)).port.held = { status := .framing, result := [] } ∧
    (after node (.transactionRejected [0x01] 0)).port.held = { status := .badRequest, result := [] } := by decide
theorem test_transactionAcrossReset :
    (after (after node (.nrstRelease true)) .transactionAcrossReset).port.awaitRise = false := by decide
theorem test_nop : (after node (.nop 0)).port.held = { status := .ok, result := [] } := by decide

/-! ### Directory requests -/

theorem test_claim :
    (after (on .reset .b) (.claim (claimOutput 52) 0)).entry 52 =
      some { Entry.blank .output 0x0F0 true with oneShot := true } ∧
    (after (on .reset .b) (.claim (claimOutput 0x83) 0)).port.held = { status := .ok, result := [48] } := by decide
theorem test_claim_frozen : ((after .reset (.claim (claimInput 7) 0)).entry 7).map Entry.state = some .frozen := by decide
theorem test_retire : (after node (.retire 1 0)).entry 1 = none ∧
    (after publishing (.retire 1 0)).port.held.status = .pending := by decide
theorem test_read :
    (after node (.read 0 0)).port.held.result.take 11 = [0, 0x41, 0x00, 0xC4, 0x0F, 0xFF, 0, 0, 2, 3, 2] := by decide
theorem test_lookup :
    (after node (.lookup 0 0 0x00C4 0)).port.held = { status := .ok, result := [0] } ∧
    (after node (.lookup 1 1 0x05A0 0)).port.held = { status := .ok, result := [2] } := by decide
theorem test_set_beaconed :
    (after node (.set 1 1 #v[1, 0, 0, 0, 0, 0, 0, 0] 0)).entry 1 = some { outputE with staged := some [1] } := by decide
theorem test_set_free :
    (after (free node .a) (.set 1 1 #v[1, 0, 0, 0, 0, 0, 0, 0] 0)).entry 1 =
      some { outputE with value := some [1], publishPending := true } := by decide
theorem test_publish : (after node (.publish 2 0)).entry 2 = some { bridgeE with publishPending := true } := by decide
theorem test_hold : (after node (.hold 1 0)).entry 1 = some { outputE with held := true } := by decide
theorem test_release :
    (after ((free node .a).setEntry 1 { outputE with held := true, staged := some [1] }) (.release 1 0)).entry 1 =
      some { outputE with value := some [1], publishPending := true } := by decide
theorem test_ask : (after node (.ask 0 0)).entry 0 = some { inputE with askPending := true } := by decide

/-! ### The queue, the flags, the lines, the settings -/

/-- The node with entry 0 queued for STALE and FRESHENED, as in section 11.2. -/
def queued : State :=
  ((node.setEntry 0 { inputE with causes := { stale := true, freshened := true } }).withQueue [0]).judgePins

theorem test_take :
    (after queued (.take 0)).port.held = { status := .ok, result := [0, 0x00, 0x0C] } ∧
    (after queued (.take 0)).queue = [] ∧ (after queued (.take 0)).pins.irq = .released := by decide
theorem test_events : (after queued (.events 0)).port.held.result = [0, 0, 1] := by decide
theorem test_ackEvents :
    (after (queued.raise (.ofLine .a .caution)) (.ackEvents 2 0 1 0)).flag (.ofLine .a .caution) = false ∧
    (after queued (.ackEvents 0 0 1 0)).pins.irq = .repulse := by decide
theorem test_line : (after node (.line 0 0)).port.held.result = [0, 0x22, 9, 0, 0, 0, 0, 0] := by decide
theorem test_attach : (after node (.attach 1 0)).line.b.state = .joining ∧
    (after node (.attach 1 0)).engine.b = .recovering 0 := by decide
theorem test_detach : (after node (.detach 0 0)).entry 0 =
    some { inputE with state := .frozen, causes := { froze := true } } ∧ (after node (.detach 0 0)).queue = [0, 2] := by
  decide
theorem test_settingWrite :
    (after node (.settingWrite 0x09 250 0)).staged.line.a.cyclePeriod = 250 ∧
    (after node (.settingWrite 0x09 251 0)).port.held.status = .badArg := by decide
theorem test_settingRead :
    (after (after node (.settingWrite 0x09 250 0)) (.settingRead 0x09 0)).port.held.result = [0, 250, 0, 10, 0, 0, 0] := by
  decide

/-- The node with a new period staged for Line A, which takes part, and a new route for APPLY_DONE. -/
def stagedNode : State :=
  after (after node (.settingWrite 0x09 250 0)) (.settingWrite 0x1F 2 0)

theorem test_apply :
    (after stagedNode (.apply 0)).port.held.status = .pending ∧
    (after stagedNode (.apply 0)).applied.routes.applyDone = .alert := by decide
theorem test_clear :
    (after publishing (.clear 0)).entry 1 = none ∧ (after publishing (.clear 0)).line.a.attempt = none := by decide

/-! ### Frames received -/

theorem test_dataFrame :
    (after node (.dataFrame .a 0x0C4 [0x00, 0xD2])).entry 0 =
      some { inputE with age := 0, candidate := some { value := [0x00, 0xD2], run := 1 } } := by decide
theorem test_dataFrame_commit :
    (after node (.dataFrame .a 0x2A0 [0x08])).entry 2 =
      some { bridgeE with value := some [0x08], stamp := some 9, publishPending := true, causes := { committed := true } } ∧
    (after node (.dataFrame .a 0x2A0 [0x08])).queue = [2] := by decide
theorem test_queryFrame :
    (after node (.queryFrame .a 0x0F0)).entry 1 =
      some { outputE with publishPending := true, causes := { queried := true } } := by decide
/-- R69: the query is taken first; the frame in flight stays, and its success then clears what is pending. -/
theorem test_queryFrame_inFlight :
    (after publishing (.queryFrame .a 0x0F0)).line.a.attempt = publishing.line.a.attempt ∧
    (after (after publishing (.queryFrame .a 0x0F0)) (.transmitSuccess .a)).entry 1 =
      some { outputE with stamp := some 9, causes := { queried := true, published := true } } := by decide
theorem test_recallFrame :
    (after node2 (.recallFrame .b)).entry 2 =
      some { bridgeE with publishPending := true, causes := { queried := true } } := by decide
theorem test_beaconFrame :
    (after node (.beaconFrame .a 5 10)).entry 0 =
      some { inputE with age := 3, state := .stale, causes := { stale := true } } ∧
    (after node (.beaconFrame .a 5 10)).cycle.a.cycle = 10 := by decide
theorem test_beaconFrame_yield :
    (after (source node .a) (.beaconFrame .a 4 10)).cycle.a.acting = .follower ∧
    (after (source node .a) (.beaconFrame .a 5 10)).flag (.ofLine .a .contested) = true := by decide
theorem test_discardedFrame :
    (after node (.discardedFrame .a { tag := 0, kind := 2, payload := [1] })) =
      node.withEngine .a (.intermission 0) := by decide
theorem test_receiveError :
    (after node (.receiveError .a .check)).line.a.receiveCount = 1 ∧
    (after node (.receiveError .a .check)).engine.a = .flagging true 1 0 := by decide

/-! ### Attempts, idle sequences and timers -/

theorem test_transmitSelection :
    (after (node.setEntry 1 { outputE with publishPending := true }) (.transmitSelection .a)).line.a.attempt =
      some { owner := .publish 1, frame := .data 0x0F0 [0x00] } := by decide
theorem test_transmitSuccess :
    (after publishing (.transmitSuccess .a)).entry 1 =
      some { outputE with stamp := some 9, causes := { published := true } } := by decide
theorem test_transmitSuccess_retiring : (after retiring (.transmitSuccess .a)).entry 1 = none := by decide
theorem test_arbitrationLoss :
    (after publishing (.arbitrationLoss .a)).entry 1 = some { outputE with publishPending := true } ∧
    (after publishing (.arbitrationLoss .a)).line.a.transmitCount = 0 := by decide
theorem test_startCollision :
    (after (publishing.withEngine .a (.idle 0)) (.startCollision .a)).engine.a = .receiving (some []) := by decide
/-- R103: the SOF is driven unless another node's is already on the line. -/
theorem test_drives_sof :
    (publishing.withEngine .a (.idle 0)).drives .a false = false ∧
    (publishing.withEngine .a (.idle 0)).drives .a true = true := by decide
theorem test_transmitError : (after publishing (.transmitError .a .bit)).line.a.transmitCount = 6 ∧
    (after publishing (.transmitError .a .bit)).line.a.lastError = some .bit := by decide
theorem test_transmitError_off :
    (after (publishing.withLine .a { publishing.line.a with state := .guarded, transmitCount := 194 })
      (.transmitError .a .bit)).line.a.state = .off := by decide
theorem test_idleSequence_join :
    (after (after node (.attach 1 0)) (.idleSequence .b)).line.b.state = .active := by decide
theorem test_idleSequence_recovery :
    (after ((node.withLine .b { node.line.b with state := .off, recovery := 63 }).withEngine .b (.recovering 0))
      (.idleSequence .b)).line.b.state = .detached := by decide
theorem test_periodExpiry : (after (source node .a) (.periodExpiry .a)).cycle.a.due = true := by decide
theorem test_watchExpiry :
    (after node (.watchExpiry .a)).cycle.a.sync = .unsynced ∧
    ((after node (.watchExpiry .a)).entry 0).map Entry.state = some .frozen := by decide
theorem test_repulseWindowEnd :
    (after (queued.withPins { irq := .repulse, alert := .repulse }) (.repulseWindowEnd .irq)).pins =
      { irq := .asserted, alert := .repulse } := by decide

/-- A step takes the front command and leaves the rest waiting. -/
theorem test_step : (match step (node.withPending [.publish 1 0, .nop 0]) with
    | .next t => t.pending
    | _ => []) = [.nop 0] := by decide

/-! ### States and operands that meet the statements' hypotheses -/

/-- What holds of every occupied entry of a list holds of every entry of a state whose occupied entries it lists. -/
theorem forall_entries {s : State} {xs : List (Index × Entry)} (h : s.entries.occupied = xs)
    {P : Index → Entry → Prop} (hP : ∀ p ∈ xs, P p.1 p.2) : ∀ i e, s.entry i = some e → P i e := by
  intro i e he
  have hm : (i, e) ∈ s.entries.occupied := (Directory.mem_occupied s.entries i e).mpr he
  rw [h] at hm
  exact hP _ hm

theorem witness_EmptyQueueGoesOn :
    ((node.setEntry 1 { outputE with publishPending := true }).pending = [] ∧
      (node.setEntry 1 { outputE with publishPending := true }).selection .a ≠ none) ∧
    ((node2.setEntry 2 { bridgeE with publishPending := true }).selection .a = none ∧
      (node2.setEntry 2 { bridgeE with publishPending := true }).selection .b ≠ none) ∧
    (node2.pending = [] ∧ node2.selection .a = none ∧ node2.selection .b = none ∧ node2.samples = []) := by decide

/-- Line A in a phase, with one line bit to come. -/
def bitAtA (s : State) (p : Phase) (x : LineBit) : State := (s.withEngine .a p).withSamples [x]

/-- A state in which a step takes the line bit. -/
abbrev Awaits (s : State) (x : LineBit) : Prop :=
  s.pending = [] ∧ s.selection .a = none ∧ s.selection .b = none ∧ s.samples = [x]

/-- Each phase without a frame, at the ends of its count. -/
theorem witness_BitsOutsideFrames :
    Awaits (bitAtA node (.recovering 11) ⟨.a, false, true⟩) ⟨.a, false, true⟩ ∧
    Awaits (bitAtA node (.recovering 0) ⟨.a, false, false⟩) ⟨.a, false, false⟩ ∧
    Awaits (bitAtA node (.idle 11) ⟨.a, false, true⟩) ⟨.a, false, true⟩ ∧ node.line.a.attempt = none ∧
    Awaits (bitAtA node (.intermission 3) ⟨.a, false, true⟩) ⟨.a, false, true⟩ ∧
    Awaits (bitAtA node (.flagging true 1 0) ⟨.a, false, false⟩) ⟨.a, false, false⟩ ∧
    Awaits (bitAtA node (.flagging false 0 7) ⟨.a, false, true⟩) ⟨.a, false, true⟩ ∧
    Awaits (bitAtA publishing (.idle 0) ⟨.a, true, false⟩) ⟨.a, true, false⟩ ∧
    Awaits (bitAtA publishing (.idle 0) ⟨.a, false, false⟩) ⟨.a, false, false⟩ ∧
    Awaits (bitAtA publishing (.idle 0) ⟨.a, false, true⟩) ⟨.a, false, true⟩ ∧
    Awaits (bitAtA node .stopped ⟨.a, false, true⟩) ⟨.a, false, true⟩ ∧
    Awaits (bitAtA node (.receiving none) ⟨.a, false, true⟩) ⟨.a, false, true⟩ := by decide

/-- The QUERY of entry 0's ask. -/
def askWire : WireFrame := { tag := 0x0C4, kind := 1, payload := [] }

/-- Each verdict a sender and a receiver meet. A sender that loses at the second kind bit has read a BEACON with a tag, a
FORM error. -/
theorem witness_BitsInFrames :
    Awaits (bitAtA publishing (.sending [false]) ⟨.a, false, false⟩) ⟨.a, false, false⟩ ∧
    Awaits (bitAtA node (.receiving (some [false])) ⟨.a, false, false⟩) ⟨.a, false, false⟩ ∧
    senderVerdict askWire ([] ++ [false]) = .more ∧ senderVerdict askWire ([] ++ [true]) = .error .bit ∧
    senderVerdict askWire ((lineBits askWire).take 4 ++ [false]) = .lost ∧
    receiverVerdict ((lineBits askWire).take 4 ++ [false]) = .more ∧
    senderVerdict askWire ((lineBits askWire).take 14 ++ [false]) = .lost ∧
    receiverVerdict ((lineBits askWire).take 14 ++ [false]) = .error .form ∧
    receiverVerdict ([false] ++ [false]) = .more := by decide

/-- The whole of that QUERY, acknowledged, at the sender and at a receiver. -/
theorem witness_BitsOfCompleteFrame :
    senderVerdict askWire ((regionBits askWire ++ [false, true] ++ List.replicate 7 true) ++ [true]) = .complete ∧
    receiverVerdict ((regionBits askWire ++ [false, true] ++ List.replicate 7 true) ++ [true]) = .complete ∧
    (readFrame ((regionBits askWire ++ [false, true] ++ List.replicate 7 true) ++ [true])).legal = true := by decide

theorem witness_ResetShutsPort :
    requestOf (.take 3) = some (.take, 3) ∧ (after node .nrstAssert).port.inReset = true ∧
    (after node (.nrstRelease true)).port.inReset = false ∧ (after node (.nrstRelease true)).port.awaitRise = true := by
  decide

theorem witness_UntakenTransactionsChangeNothing :
    PortOpen node ∧ requestOf (.take 1) = some (.take, 1) ∧ ¬ LengthRight node .take 1 ∧ (7 : Fin 8) ≠ 0 ∧
    requestLength 0x01 = none ∧ requestLength 0xFF = none ∧ requestLength 0x5A = some 1 ∧
    [(0 : Byte)].length + 1 ≠ max 1 (node.port.held.result.length + 1) := by decide

theorem witness_BytesAreTheirRequest :
    requestOf (.set 1 0 #v[0, 0, 0, 0, 0, 0, 0, 0] 2) =
      some (.set 1 0 #v[0, 0, 0, 0, 0, 0, 0, 0], [(0xAA : Byte), 0x55].length) := by decide

theorem witness_NopAnswersOk : Taken node .nop 0 ∧ Taken (after node (.read 0 0)) .nop 45 := by decide

/-- Each of CLAIM's BAD_ARG cases at the first value out of range. -/
theorem witness_ClaimBad_selector_kind :
    Taken .reset (.claim (claimInput 64)) 0 ∧ ClaimBad (claimInput 64) ∧ ClaimBad (claimInput 132) ∧
    ClaimBad { claimInput 0 with kind := 0 } ∧ ClaimBad { claimInput 0 with kind := 4 } := by
  refine ⟨?_, ?_, ?_, ?_, ?_⟩ <;> decide

theorem witness_ClaimBad_receiving :
    ClaimBad { claimInput 0 with tag := 0xF000 } ∧ ClaimBad { claimInput 0 with kind := 3, outTag := 0xF000 } ∧
    ClaimBad { claimInput 0 with confirm := 0 } ∧ ClaimBad { claimInput 0 with confirm := 5 } := by
  refine ⟨?_, ?_, ?_, ?_⟩ <;> decide

theorem witness_ClaimBad_publishing :
    ClaimBad { claimOutput 0 with mode := 3 } ∧ ClaimBad { claimOutput 0 with mode := 1, period := 0 } ∧
    ClaimBad { claimOutput 0 with mode := 1, period := 32 } ∧
    ClaimBad { claimOutput 0 with mode := 1, period := 16, phase := 16 } := by
  refine ⟨?_, ?_, ?_, ?_⟩ <;> decide

/-- The largest operands in range. -/
theorem witness_ClaimGood :
    ¬ ClaimBad (claimInput 63) ∧ ¬ ClaimBad (claimInput 131) ∧ ¬ ClaimBad { claimInput 0 with confirm := 4 } ∧
    ¬ ClaimBad { claimInput 0 with kind := 3, outTag := 0xFFFF } ∧
    ¬ ClaimBad { claimOutput 0 with mode := 1, period := 16, phase := 15 } := by
  refine ⟨?_, ?_, ?_, ?_, ?_⟩ <;> decide

/-- Bank 0 with every position taken. -/
def fullBank : State := (List.range 16).foldl (fun s n => s.setEntry (Fin.ofNat 64 n) { inputE with tag := BitVec.ofNat 12 (n + 1) }) .reset

theorem witness_ClaimRefusals :
    ((claimOutput 1).selector.toNat = (1 : Index).val ∧ node.entry 1 = some outputE ∧ (retiring.entry 1).isSome = true) ∧
    (¬ ClaimBad (claimOutput 0x80) ∧ 128 ≤ (claimOutput 0x80).selector.toNat ∧
      ∀ i : Index, i.val / 16 = (claimOutput 0x80).selector.toNat - 128 → fullBank.entry i ≠ none) ∧
    ClaimChooses node (claimOutput 3) 3 ∧ ClaimChooses node (claimInput 31) 31 := by
  refine ⟨?_, ⟨?_, ?_, ?_⟩, ?_, ?_⟩ <;> decide

theorem witness_Duplicated :
    Duplicated node 3 (newEntry node 3 (claimOutput 3)) ∧ Duplicated node 31 (newEntry node 31 (claimInput 31)) :=
  ⟨⟨1, outputE, by decide, by decide⟩, ⟨0, inputE, by decide, by decide⟩⟩

theorem witness_ClaimCreates :
    Taken node (.claim (claimOutput 0x83)) 0 ∧ ¬ ClaimBad (claimOutput 0x83) ∧ ClaimChooses node (claimOutput 0x83) 48 ∧
    ¬ Duplicated node 48 (newEntry node 48 (claimOutput 0x83)) := by
  refine ⟨by decide, by decide, by decide, ?_⟩
  rintro ⟨j, x, hx, h⟩
  revert h
  exact forall_entries (s := node) (xs := [(0, inputE), (1, outputE), (2, bridgeE)]) (by decide)
    (P := fun j x => ¬ ((_ ∧ x.kind ≠ .output ∧ _ = node.home j ∧ _ = x.tag ∧ _ = x.mask) ∨
      (_ ∧ _ = publishingSide node.applied.bankMap j x))) (by decide) j x hx

theorem witness_RetireEmptiesOrWaits :
    (Taken node (.retire 64) 0 ∧ 64 ≤ (64 : Byte).toNat) ∧ (Names 63 63 ∧ node.entry 63 = none) ∧
    (Names 1 1 ∧ (retiring.entry 1).map Entry.state = some .retiring) ∧
    (node.entry 1 = some outputE ∧ outputE.state ≠ .retiring ∧ outputE.inFlight = { a := false, b := false }) ∧
    (publishing.entry 1).map Entry.inFlight = some { a := true, b := false } := by decide

theorem witness_ReadShowsEntry :
    (Taken node (.read 64) 0 ∧ 64 ≤ (64 : Byte).toNat) ∧ Taken node (.read 63) 0 ∧ Names 63 63 := by decide

theorem witness_EntryViewBytes :
    node.entry 63 = none ∧ node.entry 0 = some inputE ∧ inputE.value = some [0x00, 0xC8] ∧ outputE.staged = none ∧
    (node.setEntry 3 { outputE with staged := some (List.replicate 8 0xFF), value := none }).entry 3 =
      some { outputE with staged := some (List.replicate 8 0xFF), value := none } ∧
    ({ inputE with candidate := some { value := List.replicate 8 1, run := 3 } } : Entry).candidate =
      some { value := List.replicate 8 1, run := 3 } := by decide

theorem witness_LookupFindsLowest :
    (Taken node (.lookup 2 0 1) 0 ∧ 1 < (2 : Byte).toNat ∧ 1 < (2 : Byte).toNat ∧
      BitVec.setWidth 12 (0xF000 : BitVec 16) = (0 : Tag)) ∧
    (NamesLine 0 .a ∧ NamesLine 1 .b ∧ BitVec.setWidth 12 (0xF0C4 : BitVec 16) ≠ (0 : Tag)) ∧
    (∃ admits : Index → Prop,
      (∀ i, admits i ↔ ∃ e, node.entry i = some e ∧ e.kind ≠ .output ∧ node.home i = .a ∧
        (e.state = .live ∨ e.state = .stale ∨ e.state = .frozen) ∧ (0x0C4 : Tag) &&& e.mask = e.tag &&& e.mask) ∧
      admits 0 ∧ ∀ j, admits j → 0 ≤ j) :=
  ⟨by decide, by decide, _, fun _ => Iff.rfl, ⟨inputE, by decide⟩, fun j _ => Fin.zero_le j⟩

theorem witness_LookupFindsNone :
    ∀ i : Index, ¬ ∃ e, node.entry i = some e ∧ e.state ≠ .retiring ∧
      ((e.kind = .output ∧ node.home i = .b ∧ e.tag = 0x0F0) ∨
        (e.kind = .bridge ∧ (node.home i).other = .b ∧ e.outTag = 0x0F0)) := by
  rintro i ⟨e, he, h⟩
  revert h
  exact forall_entries (s := node) (xs := [(0, inputE), (1, outputE), (2, bridgeE)]) (by decide)
    (P := fun i e => ¬ (e.state ≠ .retiring ∧ ((e.kind = .output ∧ node.home i = .b ∧ e.tag = 0x0F0) ∨
        (e.kind = .bridge ∧ (node.home i).other = .b ∧ e.outTag = 0x0F0)))) (by decide) i e he

theorem witness_SetStagesValue :
    Taken node (.set 64 9 #v[0, 0, 0, 0, 0, 0, 0, 0]) 0 ∧ 64 ≤ (64 : Byte).toNat ∧ 8 < (9 : Byte).toNat ∧
    (Names 63 63 ∧ (8 : Byte).toNat ≤ 8 ∧ node.entry 63 = none) ∧ inputE.kind ≠ .output ∧
    (retiring.entry 1).map Entry.state = some .retiring ∧
    (outputE.kind = .output ∧ outputE.state = .live ∧ node.mode (node.home 1) = .beaconed) ∧
    (outputE.held = false ∧ (free node .a).mode ((free node .a).home 1) = .free) := by decide

theorem witness_PublishAndAskSetPending :
    Taken node (.publish 64) 0 ∧ Taken node (.ask 64) 0 ∧ 64 ≤ (64 : Byte).toNat ∧ (Names 63 63 ∧ node.entry 63 = none) ∧
    (Names 0 0 ∧ node.entry 0 = some inputE ∧ inputE.kind = .input ∧ inputE.state = .live) ∧
    (Names 1 1 ∧ node.entry 1 = some outputE ∧ outputE.kind ≠ .input ∧ outputE.state = .live) ∧
    (retiring.entry 1).map Entry.state = some .retiring ∧
    ((after publishing (.detach 0 0)).entry 2).map Entry.state = some .frozen := by decide

theorem witness_HoldAndRelease :
    Taken node (.hold 64) 0 ∧ Taken node (.release 64) 0 ∧ 64 ≤ (64 : Byte).toNat ∧
    (Names 63 63 ∧ node.entry 63 = none) ∧ inputE.kind = .input ∧
    (retiring.entry 1).map Entry.state = some .retiring ∧ (outputE.kind ≠ .input ∧ outputE.state ≠ .retiring) ∧
    (outputE.held = false ∧ bridgeE.kind = .bridge) ∧
    ((free node .a).setEntry 1 { outputE with held := true, staged := some [] }).entry 1 =
      some { outputE with held := true, staged := some [] } ∧
    (free node .a).mode ((free node .a).home 1) = .free := by decide

theorem witness_TakeReturnsHead :
    (Taken node .take 0 ∧ node.queue = []) ∧ Taken queued .take 0 ∧ queued.queue = [0] ∧
    (queued.entry 0).isSome = true := by decide

theorem witness_EventsAndAcknowledge :
    Taken queued .events 0 ∧ Taken queued (.ackEvents 0x40 0x40 7) 0 ∧ lineFlags[6]? = some .contested := by decide

theorem witness_ServiceRepulsesPins :
    requestOf (.ackEvents 0 0 1 0) = some (.ackEvents 0 0 1, 0) ∧ Taken queued (.ackEvents 0 0 1) 0 ∧
    queued.demand .irq = true ∧ (after queued (.ackEvents 0 0 1 0)).demand .irq = true ∧
    (after queued (.take 0)).demand .irq = false := by decide

theorem witness_ServiceRepulsesPins_window :
    (after queued (.ackEvents 0 0 1 0)).pins.get .irq = .repulse ∧ queued.pins.get .irq ≠ .repulse := by decide

theorem witness_LineShowsView :
    (Taken node (.line 2) 0 ∧ 1 < (2 : Byte).toNat) ∧ NamesLine 0 .a ∧ NamesLine 1 .b := by decide

theorem witness_AttachByLineState :
    (Taken node (.attach 2) 0 ∧ 1 < (2 : Byte).toNat) ∧ (NamesLine 1 .b ∧ (node.line.get .b).state = .detached) ∧
    ((node.line.get .a).state = .active ∧ ((after node (.attach 1 0)).line.get .b).state = .joining) ∧
    ((node.withLine .b { node.line.b with state := .off, recovery := 63 }).line.get .b).state = .off := by decide

theorem witness_DetachStopsLine :
    (Taken node (.detach 2) 0 ∧ 1 < (2 : Byte).toNat) ∧
    (NamesLine 0 .a ∧ (node.line.get .a).state ≠ .detached ∧ node.participates .a = true) ∧
    (node.entry 0 = some inputE ∧ inputE.kind ≠ .output ∧ inputE.state ≠ .retiring ∧ node.home 0 = .a ∧
      inputE.inFlight.get .a = false ∧ node.usable .a = true) ∧ node.home 63 ≠ .a ∧
    (retiring.line.get .a).attempt = some { owner := .publish 1, frame := .data 0x0F0 [0x00] } ∧
    (retiring.entry 1).map (fun e => (e.state, e.inFlight)) = some (.retiring, { a := true, b := false }) := by decide

/-- Entry 0's ask in flight on Line A. -/
def asking : State :=
  busy (node.setEntry 0 { inputE with askPending := true, inFlight := { a := true, b := false } }) .a
    { owner := .ask 0, frame := .query 0x0C4 }

/-- An owner that keeps its frame's pending flag, one that empties, and a receiving side that freezes. -/
theorem witness_DetachEndsAttempts :
    HasFlight publishing .a 1 { outputE with publishPending := true, inFlight := { a := true, b := false } } ∧
    HasFlight asking .a 0 { inputE with askPending := true, inFlight := { a := true, b := false } } ∧
    emptiedBy retiring .a 1 = true ∧ emptiedBy publishing .a 1 = false ∧ frozenAt asking .a 0 = true ∧
    publishing.applySet = none := by decide

theorem witness_DetachAbortsAsk :
    asking.entry 0 = some { inputE with askPending := true, inFlight := { a := true, b := false } } ∧
    (asking.line.get .a).attempt = some { owner := .ask 0, frame := .query 0x0C4 } := by decide

theorem witness_GoodFramesCount :
    frameOf (.queryFrame .a 1) = some (.a, { tag := 1, kind := 1, payload := [] }) ∧ node.canReceive .a = true ∧
    ({ tag := 1, kind := 1, payload := [] } : WireFrame).legal = true ∧
    ({ tag := 1, kind := 3, payload := [] } : WireFrame).legal = false ∧
    ({ tag := 0, kind := 0, payload := [64, 0] } : WireFrame).unusable = true ∧ node.canReceive .b = false ∧
    node.sendingAttempt .b = none ∧ publishing.sendingAttempt .a ≠ none := by decide

/-- Entry 0 one reception before its commit, in STALE. -/
def committing : State :=
  node.setEntry 0 { inputE with state := .stale, age := 3, candidate := some { value := [1], run := 1 } }

theorem witness_DataAccepted :
    (node.canReceive .a = true ∧ (0x0C4 : Tag) ≠ 0 ∧ (List.replicate 8 (0 : Byte)).length ≤ 8 ∧
      node.receivingMatch .a 0x0C4 = some 0 ∧ node.entry 0 = some inputE ∧ inputE.state = .live) ∧
    (inputE.value = some [0x00, 0xC8] ∧ inputE.value ≠ some [1] ∧ 1 ≠ inputE.confirm) ∧
    committing.receivingMatch .a 0x0C4 = some 0 ∧
    (committing.entry 0).map (fun e => (e.state, e.candidate, e.confirm)) =
      some (.stale, some { value := [1], run := 1 }, 2) := by decide

theorem witness_DataElsewhere :
    (node.receivingMatch .a 0x0F0 ≠ some 0 ∧ node.publishingMatch .a 0x0F0 = some 1 ∧ node.entry 1 = some outputE) ∧
    (on (after node (.detach 0 0)) .a).receivingMatch .a 0x0C4 = some 0 ∧
    ((on (after node (.detach 0 0)) .a).entry 0).map Entry.state = some .frozen ∧
    (on (after node (.detach 0 0)) .a).canReceive .a = true := by decide

theorem witness_QueryOwesFrame :
    (node.canReceive .a = true ∧ (0x0F0 : Tag) ≠ 0 ∧ node.publishingMatch .a 0x0F0 = some 1 ∧ outputE.state = .live) ∧
    (node.setEntry 1 { outputE with state := .spent, oneShot := true }).publishingMatch .a 0x0F0 = some 1 ∧
    node.publishingMatch .a 0x0F0 ≠ some 63 ∧
    (publishing.sendingAttempt .a ≠ none ∧ publishing.publishingMatch .a 0x0F0 = some 1) := by decide

theorem witness_RecallSweeps :
    node2.canReceive .b = true ∧ ∃ reached : Index → Entry → Bool,
      (∀ i e, reached i e = true ↔ e.answersRecall = true ∧
        ((e.kind = .output ∧ node2.home i = .b) ∨ (e.kind = .bridge ∧ (node2.home i).other = .b)) ∧
        (e.state = .live ∨ e.state = .stale ∨ e.state = .frozen)) ∧
      (node2.entry 2 = some bridgeE ∧ reached 2 bridgeE = true) ∧ node2.entry 1 = some outputE ∧ reached 1 outputE = false := by
  refine ⟨by decide, fun i e => decide (e.answersRecall = true ∧
    ((e.kind = .output ∧ node2.home i = .b) ∨ (e.kind = .bridge ∧ (node2.home i).other = .b)) ∧
    (e.state = .live ∨ e.state = .stale ∨ e.state = .frozen)), fun i e => decide_eq_true_iff, by decide, by decide, by decide⟩

theorem witness_FollowerTakesBeacon :
    node.canReceive .a = true ∧ beaconInRange 63 15 = true ∧ beaconInRange 1 0 = true ∧ node.mode .a = .beaconed ∧
    (node.cycle.get .a).acting = .follower := by decide

/-- Line A one boundary before SYNCED, with entry 0 FROZEN. -/
def regaining : State :=
  (node.setEntry 0 { inputE with state := .frozen }).withCycle .a { node.cycle.a with sync := .regaining, holdOff := 1 }

theorem witness_BoundaryAtDirectory :
    (regaining.canReceive .a = true ∧ beaconInRange 5 0 = true ∧ regaining.mode .a = .beaconed ∧
      (regaining.cycle.get .a).acting = .follower) ∧
    (regaining.entry 0 = some { inputE with state := .frozen } ∧ regaining.home 0 = .a) ∧
    (after regaining (.beaconFrame .a 5 0)).cycle.a.sync = .synced ∧
    (node.entry 0 = some inputE ∧ inputE.state = .live ∧ inputE.kind ≠ .output) ∧
    (node.entry 1 = some outputE ∧ outputE.kind = .output ∧ outputE.state = .live) ∧
    (retiring.entry 1).map Entry.state = some .retiring ∧ (node.setEntry 63 inputE).home 63 ≠ .a ∧
    node.entry 63 = none ∧
    gainsSync regaining (after regaining (.beaconFrame .a 5 0)) .a = true ∧
    (afterBoundary node .a 10 false 0 inputE).state = .stale := by decide

theorem witness_SourceMeetsBeacon :
    (source node .a).canReceive .a = true ∧ ((source node .a).cycle.get .a).acting = .source ∧
    (source node .a).mode .a = .beaconed ∧ (4 : Byte).toNat < ((source node .a).applied.line.get .a).nodeAddress ∧
    ((source node .a).applied.line.get .a).nodeAddress ≤ (5 : Byte).toNat ∧
    ((free node .a).canReceive .a = true ∧ (free node .a).mode .a = .free) := by decide

theorem witness_PeriodExpirySetsDue :
    ((source node .a).cycle.get .a).periodTimer ≠ .stopped ∧ (node.cycle.get .a).periodTimer = .stopped := by decide

theorem witness_WatchExpiryLosesSync :
    (node.cycle.get .b).watchTimer = .stopped ∧ (node.cycle.get .a).watchTimer ≠ .stopped ∧
    node.usable .a = true ∧ node.entry 0 = some inputE ∧ node.entry 63 = none := by decide

theorem witness_SelectionTakesLowest :
    node.canSelect .b = false ∧ node.canSelect .a = true ∧
    (((source node .a).withCycle .a { (source node .a).cycle.a with due := true }).canSelect .a = true ∧
      ((source node .a).withCycle .a { (source node .a).cycle.a with due := true }).mode .a = .beaconed) ∧
    (node.cycle.get .a).due = false ∧
    (∀ e, node.entry 0 = some e → (∀ v, ¬ OffersPublish node .a 0 e v) ∧ ¬ OffersAsk node .a 0 e) ∧
    OffersPublish node .a 1 { outputE with publishPending := true } [0x00] ∧
    OffersAsk node .a 0 { inputE with askPending := true } := by
  refine ⟨by decide, by decide, by decide, by decide, ?_, by decide, by decide⟩
  intro e he
  have h : e = inputE := by
    have h0 : node.entry 0 = some inputE := by decide
    rw [h0] at he
    exact (Option.some.inj he).symm
  subst h
  exact ⟨fun v hv => absurd hv.1 (by decide), by decide⟩

theorem witness_SuccessAtLine :
    node.sendingAttempt .a = none ∧
    publishing.sendingAttempt .a = some { owner := .publish 1, frame := .data 0x0F0 [0x00] } := by decide

theorem witness_SuccessAtEntry :
    publishing.entry 1 = some { outputE with publishPending := true, inFlight := { a := true, b := false } } ∧
    outputE.oneShot = false ∧
    (asking.sendingAttempt .a = some { owner := .ask 0, frame := .query 0x0C4 } ∧
      asking.entry 0 = some { inputE with askPending := true, inFlight := { a := true, b := false } }) ∧
    retiring.sendingAttempt .a = some { owner := .publish 1, frame := .data 0x0F0 [0x00] } := by decide

/-- The bridge's publish in flight on Line B, and a ONE_SHOT output's on Line A. -/
def publishing2 : State :=
  busy (busy ((node2.setEntry 1 { outputE with oneShot := true, publishPending := true, inFlight := { a := true, b := false } }).setEntry
      2 { bridgeE with publishPending := true, inFlight := { a := false, b := true } }) .a
    { owner := .publish 1, frame := .data 0x0F0 [0x00] }) .b { owner := .publish 2, frame := .data 0x5A0 [0x06] }

theorem witness_SuccessAtOtherEntries :
    (publishing2.sendingAttempt .a = some { owner := .publish 1, frame := .data 0x0F0 [0x00] } ∧
      (publishing2.entry 1).map (fun e => (e.oneShot, e.inFlight.get .a)) = some (true, true)) ∧
    publishing2.sendingAttempt .b = some { owner := .publish 2, frame := .data 0x5A0 [0x06] } ∧
    (publishing2.entry 2).map (fun e => (e.kind, e.inFlight.get .b)) = some (.bridge, true) := by decide

theorem witness_OwnBeaconIsBoundary :
    (busy (source node .a) .a { owner := .beacon, frame := .beacon 5 15 }).sendingAttempt .a =
      some { owner := .beacon, frame := .beacon 5 15 } := by decide

theorem witness_LossesKeepPending :
    publishing.sendingAttempt .a = some { owner := .publish 1, frame := .data 0x0F0 [0x00] } ∧
    (publishing.withEngine .a (.idle 11)).sendingAttempt .a = some { owner := .publish 1, frame := .data 0x0F0 [0x00] } ∧
    (publishing.withEngine .a (.idle 11)).engine.get .a = .idle 11 ∧
    (retiring.entry 1).map (fun e => e.inFlight.get .b) = some false := by decide

theorem witness_ReceiveErrorCounts :
    node.canReceive .a = true ∧ node.canReceive .b = false ∧
    (node.withLine .a { node.line.a with state := .guarded, receiveCount := 127 }).canReceive .a = true := by decide

/-- The attempt on a line in GUARDED with a transmit count. -/
def guarded (n : Nat) : State := publishing.withLine .a { publishing.line.a with state := .guarded, transmitCount := n }

theorem witness_TransmitErrorCounts :
    ((guarded 193).sendingAttempt .a = some { owner := .publish 1, frame := .data 0x0F0 [0x00] } ∧
      ((guarded 193).line.get .a).transmitCount + 6 < 200) ∧
    ((guarded 199).sendingAttempt .a = some { owner := .publish 1, frame := .data 0x0F0 [0x00] } ∧
      ((guarded 199).line.get .a).state = .guarded ∧ ((guarded 199).line.get .a).transmitCount + 0 < 200) ∧
    (publishing.line.get .a).state = .active ∧
    (retiring.sendingAttempt .a ≠ none ∧ emptiedBy retiring .a 1 = true) := by decide

theorem witness_TransmitErrorEntersOff :
    (guarded 194).sendingAttempt .a = some { owner := .publish 1, frame := .data 0x0F0 [0x00] } ∧
    ((guarded 194).line.get .a).state = .guarded ∧ 200 ≤ ((guarded 194).line.get .a).transmitCount + 6 ∧
    ((guarded 194).entry 0 = some inputE ∧ (guarded 194).home 0 = .a ∧ inputE.kind ≠ .output ∧ inputE.state = .live ∧
      (guarded 194).usable .a = true ∧ inputE.inFlight.get .a = false) ∧
    frozenAt (guarded 194) .a 0 = true ∧ frozenAt (guarded 194) .a 1 = false := by decide

theorem witness_JoinCompletes :
    ((after node (.attach 1 0)).line.get .b).state = .joining ∧ (after node (.attach 1 0)).engine.get .b = .recovering 0 ∧
    (node.mode .b = .beaconed ∧ (node.cycle.get .b).sync = .unsynced) ∧
    ((free ((after node (.attach 1 0)).setEntry 63 { inputE with state := .frozen }) .b).mode .b = .free ∧
      (free ((after node (.attach 1 0)).setEntry 63 { inputE with state := .frozen }) .b).entry 63 =
        some { inputE with state := .frozen } ∧ node.home 63 = .b) := by decide

/-- Line B in OFF after n idle sequences. -/
def recovering (n : Nat) : State :=
  (node.withLine .b { node.line.b with state := .off, recovery := n }).withEngine .b (.recovering 0)

theorem witness_RecoveryRuns :
    ((recovering 62).line.get .b).state = .off ∧ (recovering 62).engine.get .b = .recovering 0 ∧
    ((recovering 62).line.get .b).recovery + 1 < 64 ∧ ((recovering 63).line.get .b).recovery = 63 ∧
    (after ((recovering 63).withLine .b { (recovering 63).line.b with rejoin := true }) (.idleSequence .b)).line.b.state =
      .active ∧ (recovering 63).applySet = none ∧
    ((free ((recovering 63).setEntry 63 { inputE with state := .frozen }) .b).mode .b = .free ∧
      (free ((recovering 63).setEntry 63 { inputE with state := .frozen }) .b).entry 63 =
        some { inputE with state := .frozen }) := by decide

/-- An apply set of which Line B's portion waits. -/
def portionOfB : ApplySet :=
  { values := stagedNode.staged, lineWaiting := { a := false, b := true }, bankWaiting := false }

/-- A line portion that waits at the end of a recovery. -/
theorem witness_RecoveryTakesPortion :
    ((recovering 63).withApplySet (some portionOfB)).applySet = some portionOfB ∧ portionOfB.lineWaiting.get .b = true := by
  decide

theorem witness_IdleSequenceElsewhere :
    node.participates .a = true ∧ (node.engine.get .a).countsIdle = true ∧ (publishing.engine.get .a).countsIdle = false := by
  decide

theorem witness_SettingsWrittenAndRead :
    Taken node (.settingWrite 0x20 2) 0 ∧ itemAccepts 0x20 2 = true ∧ itemAccepts 0x20 3 = false ∧
    itemAccepts 0x21 0 = false ∧ itemAccepts 0 0 = false ∧ itemAccepts 0x03 63 = true ∧ itemAccepts 0x03 64 = false ∧
    itemAccepts 0x0F 0xFFFF = true ∧ (Item.bankMap ≠ .route .applyFault) ∧
    (Taken node (.settingRead 0x21) 0 ∧ 0x20 < (0x21 : Byte).toNat) ∧ 1 ≤ (0x20 : Byte).toNat ∧
    (0x20 : Byte).toNat ≤ 0x20 := by decide

/-- A part with both lines DETACHED whose APPLY moves bank 0, with entry 1 waiting in it, onto Line B, then FREE. -/
def moving : State :=
  (State.reset.setEntry 1 { outputE with staged := some [0x01] }).withStaged
    { State.reset.staged.putLine .b { State.reset.staged.line.b with cycleMode := .free } with bankMap := bankMapOf 13 }

theorem witness_ApplySamples :
    (Taken moving .apply 0 ∧ banksMove moving = true ∧ sampledByApply moving 1 = true) ∧
    moving.entry 1 = some { outputE with staged := some [0x01] } ∧
    (after moving (.apply 0)).entry 1 = some (sampledOnFree { outputE with staged := some [0x01] } [0x01]) ∧
    sampledByApply (State.reset.withStaged (State.reset.staged.putLine .a
      { State.reset.staged.line.a with cycleMode := .free })) 1 = true ∧ sampledByApply node 1 = false := by decide

theorem witness_ApplyByPortions :
    Taken stagedNode .apply 0 ∧ lineWouldWait stagedNode .a = true ∧ lineWouldWait stagedNode .b = false ∧
    banksWouldWait (after node (.settingWrite 0x0F 0 0)) = true ∧
    banksRefused ((after (after .reset (.claim (claimInput 0) 0)) (.claim (claimInput 32) 0)).withStaged
      { State.reset.staged with bankMap := bankMapOf 0 }) = true := by decide

theorem witness_ClearEmptiesPart :
    Taken publishing .clear 0 ∧ (publishing.line.get .a).state ≠ .detached ∧ (publishing.line.get .b).state = .detached := by
  decide

theorem witness_ReceiverReadsFrame :
    ({ tag := 0xFFF, kind := 2, payload := List.replicate 8 0xFF } : WireFrame).legal = true ∧
    ({ tag := 0, kind := 0, payload := [1, 0] } : WireFrame).legal = true := by decide

theorem witness_SenderCompletesWhenAcknowledged :
    (Frame.wire (.query 0x0C4)).legal = true ∧ (Frame.wire (.data 1 [])).legal = true ∧
    (Frame.wire (.beacon 63 15)).legal = true := by decide

/-! ### States that meet the invariants, with their next states -/

theorem step_node : ∃ t, step (node.withPending [.publish 1 0]) = .next t := ⟨_, rfl⟩

theorem witness_LinesStayConsistent : ∀ l, CountsAgree (node.line.get l) ∧ EngineAgrees node l := by
  intro l; cases l <;> decide

theorem node_entries {P : Index → Entry → Prop} (h0 : P 0 inputE) (h1 : P 1 outputE) (h2 : P 2 bridgeE) :
    ∀ i e, node.entry i = some e → P i e :=
  forall_entries (xs := [(0, inputE), (1, outputE), (2, bridgeE)]) (by decide) (by
    intro p hp
    simp only [List.mem_cons, List.not_mem_nil, or_false] at hp
    rcases hp with rfl | rfl | rfl <;> assumption)

theorem node_attempt (l : LineId) : (node.line.get l).attempt = none := by cases l <;> decide

theorem witness_FlightStaysConsistent : FlightAgrees node where
  entry i e l := by
    revert i e
    rw [node_attempt l]
    cases l <;> exact node_entries (by decide) (by decide) (by decide)
  occupied i l h := by rw [node_attempt l] at h; exact absurd h (by simp [ownerEntry])
  retiring := node_entries (by decide) (by decide) (by decide)
  onLine l a h := by rw [node_attempt l] at h; exact nomatch h
  partakes l h := by rw [node_attempt l] at h; exact absurd h (by decide)

/-- A candidate that may be held, or none. -/
theorem fits_input : EntryFits inputE :=
  { tag := by decide, state := by decide, spent := by decide
    values := ⟨fun v h => by cases h; decide, (fun _ h => nomatch h), (fun _ h => nomatch h)⟩
    receiving := by decide, candidate := (fun _ h => nomatch h)
    age := by decide, stale := by decide, fresh := by decide, output := by decide, input := by decide
    schedule := by decide, outTag := by decide }

theorem fits_output : EntryFits outputE :=
  { tag := by decide, state := by decide, spent := by decide
    values := ⟨fun v h => by cases h; decide, (fun _ h => nomatch h), (fun _ h => nomatch h)⟩
    receiving := by decide, candidate := (fun _ h => nomatch h)
    age := by decide, stale := by decide, fresh := by decide, output := by decide, input := by decide
    schedule := by decide, outTag := by decide }

theorem fits_bridge : EntryFits bridgeE :=
  { tag := by decide, state := by decide, spent := by decide
    values := ⟨fun v h => by cases h; decide, (fun _ h => nomatch h), (fun _ h => nomatch h)⟩
    receiving := by decide, candidate := (fun _ h => nomatch h)
    age := by decide, stale := by decide, fresh := by decide, output := by decide, input := by decide
    schedule := by decide, outTag := by decide }

theorem witness_EntriesStayFit : ∀ i e, node.entry i = some e → EntryFits e :=
  node_entries fits_input fits_output fits_bridge

theorem witness_FrozenFollowsUsability : FrozenAgrees node := node_entries (by decide) (by decide) (by decide)

theorem witness_DuplicateGuardStands : GuardHolds node := by decide

theorem witness_QueueHoldsNotified : QueueAgrees node where
  once := by decide
  occupied i h := absurd h (by simp [node, on, synced, State.setEntry, State.withEntries, State.withCycle,
    State.withEngine, State.withLine, State.reset])
  queued := node_entries (by decide) (by decide) (by decide)

theorem witness_PinsFollowDemand : PinsAgree node := by
  intro p; cases p <;> decide

theorem witness_PortStaysConsistent :
    ResetHeld (after node .nrstAssert) ∧ (after node .nrstAssert).port.inReset = true ∧
    ResponseFits (after node (.read 0 0)) ∧ (after node (.read 0 0)).port.held.result.length = 45 := by decide

theorem witness_UnitsStayConsistent : ∀ l, UnitAgrees node l := by
  intro l
  have none_sent : ∀ a, (node.line.get l).attempt = some a → False := by
    intro a h; rw [node_attempt l] at h; exact nomatch h
  exact
    { free := by cases l <;> decide
      holdOff := by cases l <;> decide
      watch := by cases l <;> decide
      period := by cases l <;> decide
      follower := by cases l <;> decide
      sourceOnly := by cases l <;> decide
      apart := by cases l <;> decide
      ownBeacon := fun a h => (none_sent a h).elim
      partakes := by cases l <;> decide }

/-- The node with Line A's portion waiting. -/
def waitingNode : State := after stagedNode (.apply 0)

theorem node_applySet : node.applySet = none := by decide

theorem witness_SettingsStayFit : CopiesFit node ∧ SetWaits node ∧ waitingNode.applySet.isSome = true :=
  ⟨⟨by decide, by decide, fun p h => nomatch node_applySet.symm.trans h⟩,
    { waits := fun p h => nomatch node_applySet.symm.trans h
      line := fun p _ h => nomatch node_applySet.symm.trans h
      bank := fun p h => nomatch node_applySet.symm.trans h }, by decide⟩

/-- DETACH of Line B, which is DETACHED, in a state that keeps both invariants. -/
theorem witness_DetachOfDetached :
    (Taken node (.detach 1) 0 ∧ NamesLine 1 .b ∧ (node.line.get .b).state = .detached) ∧ SetWaits node ∧ PinsAgree node :=
  ⟨by decide, witness_SettingsStayFit.2.1, witness_PinsFollowDemand⟩

/-- A bank-map portion that Line A's DETACH brings into force. -/
theorem witness_DetachTakesBankMap :
    (match (after (after node (.settingWrite 0x0F 0 0)) (.apply 0)).applySet with
      | some p => p.bankWaiting && guardHolds p.values.bankMap node.entries
      | none => false) = true ∧ node.isDetached .b = true := by decide

end Sys2Proof.Tests
end

/-! PROOFS. The directory's RETIRE and LOOKUP (R14, R15, R18, R22, R24, R25). -/

namespace Sys2Proof.Machine

open Sys2Proof.Safety

/-! ### Answers that change nothing -/

/-- A request that its block answers with a bare status, changing nothing, changes no block (R173). -/
theorem exec_unchanged (c : Instr) (r : Request) (n : Nat) (s : State) (status : Status)
    (hc : requestOf c = some (r, n)) (h : Taken s r n)
    (hr : runRequest r (s.shift (8 * (r.length + n))) = (s.shift (8 * (r.length + n)), .plain status)) :
    exec c s = .next (unchanged s r n status) :=
  exec_answered c r n s s status [] _ hc h hr (by simp [Answer.response])

/-! ### RETIRE -/

theorem Entry.grounded_iff (e : Entry) : e.grounded = true ↔ e.inFlight = { a := false, b := false } := by
  cases he : e.inFlight with
  | mk a b => simp [Entry.grounded, he]

theorem requestRetire_noIndex (b : Byte) (s : State) (hb : 64 ≤ b.toNat) :
    requestRetire b s = (s, .plain .badArg) := by
  simp only [requestRetire, indexOperand_none hb]

theorem requestRetire_empty (b : Byte) (s : State) (i : Index) (hb : Names b i) (he : s.entry i = none) :
    requestRetire b s = (s, .plain .badState) := by
  simp only [requestRetire, indexOperand_names hb, he]

theorem requestRetire_retiring (b : Byte) (s : State) (i : Index) (e : Entry) (hb : Names b i)
    (he : s.entry i = some e) (hs : e.state = .retiring) : requestRetire b s = (s, .plain .pending) := by
  simp only [requestRetire, indexOperand_names hb, he, if_pos hs]

theorem requestRetire_grounded (b : Byte) (s : State) (i : Index) (e : Entry) (hb : Names b i)
    (he : s.entry i = some e) (hs : e.state ≠ .retiring) (hg : e.grounded = true) :
    requestRetire b s = ((s.emptyEntry i).judgePins, .plain .ok) := by
  simp only [requestRetire, indexOperand_names hb, he, if_neg hs, if_pos hg]

theorem requestRetire_inFlight (b : Byte) (s : State) (i : Index) (e : Entry) (hb : Names b i)
    (he : s.entry i = some e) (hs : e.state ≠ .retiring) (hg : ¬ e.grounded = true) :
    requestRetire b s = (s.setEntry i { e with state := .retiring }, .plain .pending) := by
  simp only [requestRetire, indexOperand_names hb, he, if_neg hs, if_neg hg]

/-- Settles O11, by the five branches of RETIRE. -/
theorem retireEmptiesOrWaits : Obligations.RetireEmptiesOrWaits := by
  intro b n s hT
  refine ⟨fun hb => ?noIndex, fun i hb he => ?empty, fun i e hb he =>
    ⟨fun hs => ?retiring, fun hs hf => ?grounded, fun hs hf => ?inFlight⟩⟩
  case noIndex => exact exec_unchanged _ _ n s .badArg rfl hT (requestRetire_noIndex b _ hb)
  case empty => exact exec_unchanged _ _ n s .badState rfl hT (requestRetire_empty b _ i hb he)
  case retiring => exact exec_unchanged _ _ n s .pending rfl hT (requestRetire_retiring b _ i e hb he hs)
  case grounded =>
    exact exec_answered _ _ n s _ .ok [] [] rfl hT
      (requestRetire_grounded b _ i e hb he hs (e.grounded_iff.mpr hf)) rfl
  case inFlight =>
    exact exec_answered _ _ n s _ .pending [] [] rfl hT
      (requestRetire_inFlight b _ i e hb he hs (mt e.grounded_iff.mp hf)) rfl

/-! ### LOOKUP -/

theorem sideOperand_none {b : Byte} (h : 1 < b.toNat) : sideOperand b = none := by
  unfold sideOperand
  split
  · omega
  · omega
  · rfl

theorem EntryState.receives_iff (x : EntryState) : x.receives = true ↔ x = .live ∨ x = .stale ∨ x = .frozen := by
  cases x <;> decide

/-- R22: the entries the receiving match considers. -/
theorem State.inReceivingMatch_iff (s : State) (l : LineId) (t : Tag) (i : Index) :
    s.inReceivingMatch l t i = true ↔
      ∃ e, s.entry i = some e ∧ e.kind ≠ .output ∧ s.home i = l ∧
        (e.state = .live ∨ e.state = .stale ∨ e.state = .frozen) ∧ t &&& e.mask = e.tag &&& e.mask := by
  unfold State.inReceivingMatch
  cases he : s.entry i with
  | none => simp
  | some e =>
    simp only [Bool.and_eq_true, EntryState.receives_iff, bne_iff_ne, beq_iff_eq, Entry.satisfiedBy, Option.some.injEq,
      exists_eq_left']
    tauto

/-- R3: the entries whose publishing side lies on a line with a tag. -/
theorem publishingSide_eq_some_iff (m : BankMap) (i : Index) (e : Entry) (l : LineId) (t : Tag) :
    publishingSide m i e = some (l, t) ↔
      (e.kind = .output ∧ m.home i = l ∧ e.tag = t) ∨ (e.kind = .bridge ∧ (m.home i).other = l ∧ e.outTag = t) := by
  cases hk : e.kind <;> simp [publishingSide, hk]

/-- R24: the entries the publishing match considers. -/
theorem State.inPublishingMatch_iff (s : State) (l : LineId) (t : Tag) (i : Index) :
    s.inPublishingMatch l t i = true ↔
      ∃ e, s.entry i = some e ∧ e.state ≠ .retiring ∧
        ((e.kind = .output ∧ s.home i = l ∧ e.tag = t) ∨
          (e.kind = .bridge ∧ (s.home i).other = l ∧ e.outTag = t)) := by
  unfold State.inPublishingMatch
  cases he : s.entry i with
  | none => simp
  | some e =>
    simp only [Bool.and_eq_true, bne_iff_ne, beq_iff_eq, publishingSide_eq_some_iff, Option.some.injEq, exists_eq_left',
      State.home]

/-- R25: what LOOKUP's match on a side admits. -/
def State.sideAdmits (s : State) (l : LineId) (t : Tag) : Side → Index → Bool
  | .inside => s.inReceivingMatch l t
  | .outside => s.inPublishingMatch l t

/-- LOOKUP searches the positions from the lowest for one its match admits. -/
theorem State.lookup_eq_find (s : State) (l : LineId) (t : Tag) (x : Side) :
    s.lookup l t x = indices.find? (s.sideAdmits l t x) := by
  cases x <;> rfl

theorem State.lookup_eq_some_iff (s : State) (l : LineId) (t : Tag) (x : Side) (i : Index) :
    s.lookup l t x = some i ↔ s.sideAdmits l t x i = true ∧ ∀ j, s.sideAdmits l t x j = true → i ≤ j := by
  rw [State.lookup_eq_find, find_indices_some]

theorem State.lookup_eq_none_iff (s : State) (l : LineId) (t : Tag) (x : Side) :
    s.lookup l t x = none ↔ ∀ i, ¬ s.sideAdmits l t x i = true := by
  simp only [State.lookup_eq_find, find_indices_none, Bool.not_eq_true]

/-- The match does not read the host port. -/
@[simp] theorem State.lookup_shift (s : State) (edges : Nat) (l : LineId) (t : Tag) (x : Side) :
    (s.shift edges).lookup l t x = s.lookup l t x := by
  cases x <;> rfl

theorem requestLookup_badArg (lb side : Byte) (tag : BitVec 16) (s : State)
    (h : 1 < lb.toNat ∨ 1 < side.toNat ∨ tag.setWidth 12 = (0 : Tag)) :
    requestLookup lb side tag s = (s, .plain .badArg) := by
  unfold requestLookup
  split
  next l x hl hx =>
    obtain h | h | h := h
    · exact absurd hl (by simp [lineOperand_none h])
    · exact absurd hx (by simp [sideOperand_none h])
    · exact if_pos h
  next => rfl

section
variable {lb side : Byte} {tag : BitVec 16} {n : Nat} {s : State} {l : LineId} {x : Side} {i : Index}

theorem requestLookup_found (hl : NamesLine lb l) (hx : sideOperand side = some x) (ht : tag.setWidth 12 ≠ (0 : Tag))
    (hi : s.lookup l (tag.setWidth 12) x = some i) :
    requestLookup lb side tag s = (s, { status := .ok, result := [indexByte i] }) := by
  simp only [requestLookup, lineOperand_names hl, hx, tagOperand, if_neg ht, hi]

theorem requestLookup_notFound (hl : NamesLine lb l) (hx : sideOperand side = some x)
    (ht : tag.setWidth 12 ≠ (0 : Tag)) (hno : s.lookup l (tag.setWidth 12) x = none) :
    requestLookup lb side tag s = (s, .plain .notFound) := by
  simp only [requestLookup, lineOperand_names hl, hx, tagOperand, if_neg ht, hno]

/-- R25: a taken LOOKUP answers with its match's winner. -/
theorem exec_lookup_found (hT : Taken s (.lookup lb side tag) n) (hl : NamesLine lb l) (hx : sideOperand side = some x)
    (ht : tag.setWidth 12 ≠ (0 : Tag)) (hi : s.lookup l (tag.setWidth 12) x = some i) :
    exec (.lookup lb side tag n) s = .next (answered s s (.lookup lb side tag) n .ok [BitVec.ofNat 8 i.val]) :=
  exec_answered _ _ n s s .ok [indexByte i] _ rfl hT
    (requestLookup_found hl hx ht ((s.lookup_shift _ l _ x).trans hi)) rfl

/-- R25: a taken LOOKUP whose match has no winner answers NOT_FOUND. -/
theorem exec_lookup_notFound (hT : Taken s (.lookup lb side tag) n) (hl : NamesLine lb l)
    (hx : sideOperand side = some x) (ht : tag.setWidth 12 ≠ (0 : Tag))
    (hno : s.lookup l (tag.setWidth 12) x = none) :
    exec (.lookup lb side tag n) s = .next (unchanged s (.lookup lb side tag) n .notFound) :=
  exec_unchanged _ _ n s .notFound rfl hT (requestLookup_notFound hl hx ht ((s.lookup_shift _ l _ x).trans hno))

end

/-- Settles O14: either side's condition is what that side's match admits, and the search finds the lowest. -/
theorem lookupFindsLowest : Obligations.LookupFindsLowest := by
  intro lb side tag n s hT
  refine ⟨fun hbad => exec_unchanged _ _ n s .badArg rfl hT (requestLookup_badArg lb side tag _ hbad), ?_⟩
  intro l admits hl ht hadmits
  obtain ⟨x, hx, hiff⟩ :
      ∃ x, sideOperand side = some x ∧ ∀ i, admits i ↔ s.sideAdmits l (tag.setWidth 12) x i = true := by
    obtain ⟨rfl, hin⟩ | ⟨rfl, hout⟩ := hadmits
    · exact ⟨.inside, rfl, fun i => (hin i).trans (s.inReceivingMatch_iff l _ i).symm⟩
    · exact ⟨.outside, rfl, fun i => (hout i).trans (s.inPublishingMatch_iff l _ i).symm⟩
  simp only [hiff]
  exact ⟨fun i hi hmin => exec_lookup_found hT hl hx ht ((s.lookup_eq_some_iff l _ x i).mpr ⟨hi, hmin⟩),
    fun hno => exec_lookup_notFound hT hl hx ht ((s.lookup_eq_none_iff l _ x).mpr hno)⟩

end Sys2Proof.Machine

/-! PROOFS. The directory's PUBLISH and ASK (R50, R70, R85). -/

namespace Sys2Proof.Machine

open Sys2Proof.Safety

section
variable {b : Byte} {n : Nat} {s : State} {i : Index} {e : Entry} {status : Status}

/-- An entry that takes part in matches and attempts is neither RETIRING nor SPENT. -/
theorem EntryState.takesPart_ne {x : EntryState} (h : x = .live ∨ x = .stale ∨ x = .frozen) :
    x ≠ .retiring ∧ x ≠ .spent := by
  obtain rfl | rfl | rfl := h <;> decide

/-! ### The entry a request on the publishing side names -/

theorem publishingOperand_noIndex (hb : 64 ≤ b.toNat) : s.publishingOperand b = .error .badArg := by
  simp only [State.publishingOperand, indexOperand_none hb]

theorem publishingOperand_empty (hb : Names b i) (he : s.entry i = none) :
    s.publishingOperand b = .error .badState := by
  simp only [State.publishingOperand, indexOperand_names hb, he]

theorem publishingOperand_input (hb : Names b i) (he : s.entry i = some e) (hk : e.kind = .input) :
    s.publishingOperand b = .error .badKind := by
  simp only [State.publishingOperand, indexOperand_names hb, he, if_pos hk]

theorem publishingOperand_retiring (hb : Names b i) (he : s.entry i = some e) (hk : e.kind ≠ .input)
    (hs : e.state = .retiring) : s.publishingOperand b = .error .badState := by
  simp only [State.publishingOperand, indexOperand_names hb, he, if_neg hk, if_pos hs]

theorem publishingOperand_names (hb : Names b i) (he : s.entry i = some e) (hk : e.kind ≠ .input)
    (hs : e.state ≠ .retiring) : s.publishingOperand b = .ok (i, e) := by
  simp only [State.publishingOperand, indexOperand_names hb, he, if_neg hk, if_neg hs]

/-- The operand does not read the host port. -/
theorem publishingOperand_shift (s : State) (edges : Nat) (b : Byte) :
    (s.shift edges).publishingOperand b = s.publishingOperand b := rfl

/-! ### PUBLISH -/

theorem requestPublish_refused (h : s.publishingOperand b = .error status) :
    requestPublish b s = (s, .plain status) := by
  simp only [requestPublish, h]

theorem requestPublish_spent (h : s.publishingOperand b = .ok (i, e)) (hs : e.state = .spent) :
    requestPublish b s = (s, .plain .badState) := by
  simp only [requestPublish, h, if_pos hs]

theorem requestPublish_sets (h : s.publishingOperand b = .ok (i, e)) (hs : e.state ≠ .spent) :
    requestPublish b s = (s.setEntry i { e with publishPending := true }, .plain .ok) := by
  simp only [requestPublish, h, if_neg hs]

/-- R70: a taken PUBLISH whose operand is refused answers the refusal. -/
theorem exec_publish_refused (hT : Taken s (.publish b) n) (h : s.publishingOperand b = .error status) :
    exec (.publish b n) s = .next (unchanged s (.publish b) n status) :=
  exec_unchanged _ _ n s status rfl hT (requestPublish_refused ((publishingOperand_shift s _ b).trans h))

/-- R70: a taken PUBLISH of a SPENT entry. -/
theorem exec_publish_spent (hT : Taken s (.publish b) n) (h : s.publishingOperand b = .ok (i, e))
    (hs : e.state = .spent) : exec (.publish b n) s = .next (unchanged s (.publish b) n .badState) :=
  exec_unchanged _ _ n s .badState rfl hT (requestPublish_spent ((publishingOperand_shift s _ b).trans h) hs)

/-- R70, R85: a taken PUBLISH that is not refused. -/
theorem exec_publish_sets (hT : Taken s (.publish b) n) (h : s.publishingOperand b = .ok (i, e))
    (hs : e.state ≠ .spent) :
    exec (.publish b n) s =
      .next (answered s (withEntryAt s i { e with publishPending := true }) (.publish b) n .ok []) :=
  exec_answered _ _ n s _ .ok [] [] rfl hT (requestPublish_sets ((publishingOperand_shift s _ b).trans h) hs) rfl

/-! ### ASK -/

theorem requestAsk_noIndex (hb : 64 ≤ b.toNat) : requestAsk b s = (s, .plain .badArg) := by
  simp only [requestAsk, indexOperand_none hb]

theorem requestAsk_empty (hb : Names b i) (he : s.entry i = none) : requestAsk b s = (s, .plain .badState) := by
  simp only [requestAsk, indexOperand_names hb, he]

theorem requestAsk_output (hb : Names b i) (he : s.entry i = some e) (hk : e.kind = .output) :
    requestAsk b s = (s, .plain .badKind) := by
  simp only [requestAsk, indexOperand_names hb, he, if_pos hk]

theorem requestAsk_retiring (hb : Names b i) (he : s.entry i = some e) (hk : e.kind ≠ .output)
    (hs : e.state = .retiring) : requestAsk b s = (s, .plain .badState) := by
  simp only [requestAsk, indexOperand_names hb, he, if_neg hk, if_pos hs]

theorem requestAsk_sets (hb : Names b i) (he : s.entry i = some e) (hk : e.kind ≠ .output)
    (hs : e.state ≠ .retiring) :
    requestAsk b s = (s.setEntry i { e with askPending := true }, .plain .ok) := by
  simp only [requestAsk, indexOperand_names hb, he, if_neg hk, if_neg hs]

end

/-- Settles O16, by the checks of R70 and of R50 in their order. -/
theorem publishAndAskSetPending : Obligations.PublishAndAskSetPending := by
  refine ⟨fun b n s hT => ?publish, fun b n s hT => ?ask⟩
  case publish =>
    refine ⟨fun hb => ?noIndex, fun i hb => ⟨fun he => ?empty, fun e he =>
      ⟨fun hk => ?input, fun hk hs => ?retiringOrSpent, fun hk hs => ?sets⟩⟩⟩
    case noIndex => exact exec_publish_refused hT (publishingOperand_noIndex hb)
    case empty => exact exec_publish_refused hT (publishingOperand_empty hb he)
    case input => exact exec_publish_refused hT (publishingOperand_input hb he hk)
    case retiringOrSpent =>
      obtain hretiring | hspent := hs
      · exact exec_publish_refused hT (publishingOperand_retiring hb he hk hretiring)
      · have hne : e.state ≠ .retiring := by simp [hspent]
        exact exec_publish_spent hT (publishingOperand_names hb he hk hne) hspent
    case sets =>
      obtain ⟨hretiring, hspent⟩ := EntryState.takesPart_ne hs
      exact exec_publish_sets hT (publishingOperand_names hb he hk hretiring) hspent
  case ask =>
    refine ⟨fun hb => ?noIndex, fun i hb => ⟨fun he => ?empty, fun e he =>
      ⟨fun hk => ?output, fun hk hs => ?retiring, fun hk hs => ?sets⟩⟩⟩
    case noIndex => exact exec_unchanged _ _ n s .badArg rfl hT (requestAsk_noIndex hb)
    case empty => exact exec_unchanged _ _ n s .badState rfl hT (requestAsk_empty hb he)
    case output => exact exec_unchanged _ _ n s .badKind rfl hT (requestAsk_output hb he hk)
    case retiring => exact exec_unchanged _ _ n s .badState rfl hT (requestAsk_retiring hb he hk hs)
    case sets =>
      obtain ⟨hretiring, -⟩ := EntryState.takesPart_ne hs
      exact exec_answered _ _ n s _ .ok [] [] rfl hT (requestAsk_sets hb he hk hretiring) rfl

end Sys2Proof.Machine

/-! PROOFS. The line controllers' ATTACH (R119). -/

namespace Sys2Proof.Machine

open Sys2Proof.Safety

section
variable {b : Byte} {s : State} {l : LineId}

/-! ### ATTACH -/

theorem requestAttach_noLine (hb : 1 < b.toNat) : requestAttach b s = (s, .plain .badArg) := by
  simp only [requestAttach, lineOperand_none hb]

theorem requestAttach_detached (hl : NamesLine b l) (hd : (s.line.get l).state = .detached) :
    requestAttach b s = (s.startJoin l, .plain .ok) := by
  simp only [requestAttach, lineOperand_names hl, hd]

/-- R119: a line that joins or takes part already is left as it is. -/
theorem requestAttach_attached (hl : NamesLine b l)
    (ha : (s.line.get l).state = .joining ∨ (s.line.get l).state = .active ∨ (s.line.get l).state = .guarded) :
    requestAttach b s = (s, .plain .ok) := by
  obtain hjoining | hactive | hguarded := ha
  · simp only [requestAttach, lineOperand_names hl, hjoining]
  · simp only [requestAttach, lineOperand_names hl, hactive]
  · simp only [requestAttach, lineOperand_names hl, hguarded]

theorem requestAttach_off (hl : NamesLine b l) (ho : (s.line.get l).state = .off) :
    requestAttach b s = (s.withLine l { s.line.get l with rejoin := true }, .plain .pending) := by
  simp only [requestAttach, lineOperand_names hl, ho]

end

/-- Settles O22, by the operand and then by the line state. -/
theorem attachByLineState : Obligations.AttachByLineState := by
  intro b n s hT
  refine ⟨fun hb => ?noLine, fun l hl => ⟨fun hd => ?detached, fun ha => ?attached, fun ho => ?off⟩⟩
  case noLine => exact exec_unchanged _ _ n s .badArg rfl hT (requestAttach_noLine hb)
  case detached => exact exec_answered _ _ n s _ .ok [] [] rfl hT (requestAttach_detached hl hd) rfl
  case attached => exact exec_answered _ _ n s s .ok [] [] rfl hT (requestAttach_attached hl ha) rfl
  case off => exact exec_answered _ _ n s _ .pending [] [] rfl hT (requestAttach_off hl ho) rfl

end Sys2Proof.Machine

/-! PROOFS. The host port's NOP, and the event unit's EVENTS and ACK_EVENTS (R163, R164, R175, R181). -/

namespace Sys2Proof.Machine

open Sys2Proof.Safety

/-! ### Bytes written bit by bit -/

/-- A bit listed last is the lowest bit of the number read. -/
theorem bitsNat_append_bit (bits : List Bool) (b : Bool) : bitsNat (bits ++ [b]) = Nat.bit b (bitsNat bits) := by
  simp [bitsNat, Nat.bit_val]

/-- The number read from bits listed from the highest down has them at their positions, and 0 above. -/
theorem testBit_bitsNat (bits : List Bool) (k : Nat) : (bitsNat bits).testBit k = bits.reverse.getD k false := by
  induction bits using List.reverseRecOn generalizing k with
  | nil => simp [bitsNat]
  | append_singleton bits b ih =>
    rw [bitsNat_append_bit, List.reverse_concat]
    cases k with
    | zero => simp
    | succ k => simp [Nat.testBit_bit_succ, ih]

theorem getLsbD_byteOfBits (bits : List Bool) {k : Nat} (hk : k < 8) :
    (byteOfBits bits).getLsbD k = bits.reverse.getD k false := by
  simp only [byteOfBits, byteOfNat, BitVec.getLsbD_ofNat, hk, decide_true, Bool.true_and, testBit_bitsNat]

/-! ### The flags of a line in a byte -/

/-- Each flag of a line stands once in the event table. -/
theorem position_of_lineFlag {k : Nat} {f : LineFlag} (h : lineFlags[k]? = some f) : k = lineFlags.idxOf f := by
  obtain ⟨hk, rfl⟩ := List.getElem?_eq_some_iff.mp h
  exact (List.Nodup.idxOf_getElem (by decide) k hk).symm

/-- The flags of a line as a byte: the event table's order from bit 0 up, and a 0 in bit 7. -/
theorem sevenByte_eq (x : Seven Bool) : sevenByte x = byteOfBits (lineFlags.map x.get ++ [false]).reverse := rfl

theorem getLsbD_sevenByte (x : Seven Bool) {k : Nat} {f : LineFlag} (h : lineFlags[k]? = some f) :
    (sevenByte x).getLsbD k = x.get f := by
  have hk : k < 7 := (List.getElem?_eq_some_iff.mp h).1
  rw [sevenByte_eq, getLsbD_byteOfBits _ (by omega), List.reverse_reverse,
    List.getD_append _ _ _ _ (by simpa [lineFlags] using hk)]
  simp [h]

theorem getLsbD_sevenByte_unassigned (x : Seven Bool) : (sevenByte x).getLsbD 7 = false := by
  rw [sevenByte_eq, getLsbD_byteOfBits _ (by decide), List.reverse_reverse]
  rfl

/-- R181: a mask byte clears the flags of a line at its 1 bits and leaves the others. -/
theorem Seven.get_ack (x : Seven Bool) (m : Byte) {k : Nat} {f : LineFlag} (h : lineFlags[k]? = some f) :
    (x.ack m).get f = (x.get f && !m.getLsbD k) := by
  rw [position_of_lineFlag h]
  cases f <;> rfl

/-! ### NOP, EVENTS, ACK_EVENTS -/

/-- R163 -/
theorem State.flag_queueReady (s : State) : s.flag .queueReady = decide (s.queue ≠ []) := by
  cases h : s.queue <;> simp [State.flag, h]

/-- R181: QUEUE_READY, APPLY_DONE and APPLY_FAULT in bits 0 to 2 of the third byte. -/
theorem byteOfBits_low_three (q d f : Bool) :
    byteOfBits [false, false, false, false, false, f, d, q] =
      BitVec.ofNat 8 (q.toNat + 2 * d.toNat + 4 * f.toNat) := by
  simp only [byteOfBits, byteOfNat, bitsNat, List.foldl_cons, List.foldl_nil, Bool.toNat_false]
  congr 1
  omega

/-- The flags do not live in the host port. -/
theorem runRequest_events_shift (s : State) (edges : Nat) :
    runRequest .events (s.shift edges) = (s.shift edges, { status := .ok, result := s.eventBytes }) := rfl

/-- Neither the flags nor the demand of a pin live in the host port. -/
theorem runRequest_ackEvents_shift (m0 m1 m2 : Byte) (s : State) (edges : Nat) :
    runRequest (.ackEvents m0 m1 m2) (s.shift edges) =
      (((s.withFlags (s.flags.ack m0 m1 m2)).servicePins s).withPort (s.shift edges).port, .plain .ok) := rfl

/-- R164: a taken EVENTS answers the three bytes and changes no block. -/
theorem exec_events {s : State} {n : Nat} (hT : Taken s .events n) :
    exec (.events n) s = .next (answered s s .events n .ok s.eventBytes) :=
  exec_answered _ _ n s s .ok _ _ rfl hT (runRequest_events_shift s _) rfl

/-- R164: a taken ACK_EVENTS clears what its mask names, services the pins and answers OK. -/
theorem exec_ackEvents {s : State} {m0 m1 m2 : Byte} {n : Nat} (hT : Taken s (.ackEvents m0 m1 m2) n) :
    exec (.ackEvents m0 m1 m2 n) s =
      .next (answered s ((s.withFlags (s.flags.ack m0 m1 m2)).servicePins s) (.ackEvents m0 m1 m2) n .ok []) :=
  exec_answered _ _ n s _ .ok [] [] rfl hT (runRequest_ackEvents_shift m0 m1 m2 s _) rfl

/-- Settles O8: NOP's own answer is a bare OK on the state it is given. -/
theorem nopAnswersOk : Obligations.NopAnswersOk := by
  intro n s hT
  exact exec_unchanged (.nop n) .nop n s .ok rfl hT rfl

/-- Settles O19: EVENTS reads the flags bit by bit, and ACK_EVENTS clears them at the same positions. -/
theorem eventsAndAcknowledge : Obligations.EventsAndAcknowledge := by
  refine ⟨fun n s hT => ⟨_, _, _, exec_events hT, ?shown, ?bit7OfA, ?bit7OfB, ?third, s.flag_queueReady⟩,
    fun m0 m1 m2 n s hT => ⟨_, exec_ackEvents hT, ?cleared, rfl, rfl⟩⟩
  case shown => exact fun k f hf => ⟨getLsbD_sevenByte _ hf, getLsbD_sevenByte _ hf⟩
  case bit7OfA => exact getLsbD_sevenByte_unassigned _
  case bit7OfB => exact getLsbD_sevenByte_unassigned _
  case third => exact byteOfBits_low_three _ _ _
  case cleared => exact fun k f hf => ⟨Seven.get_ack _ m0 hf, Seven.get_ack _ m1 hf⟩

end Sys2Proof.Machine

/-! PROOFS. What one step can do to the state: the event it runs, and the effect of a host request. -/

namespace Sys2Proof.Machine

open Sys2Proof.Safety

/-! ### Requests -/

/-- The changes a host request can make to an occupied entry (R15, R50, R57, R58, R70 to R72, R85). -/
inductive EntryEdit (mode : CycleMode) (e : Entry) : Entry → Prop where
  | retire (hs : e.state ≠ .retiring) (hf : e.grounded = false) : EntryEdit mode e { e with state := .retiring }
  | stage (v : Value) (hv : v.length ≤ 8) (hk : e.kind = .output) (hs : e.state = .live ∨ e.state = .spent) :
      EntryEdit mode e (e.stage v mode)
  | publish (hk : e.kind ≠ .input) (hr : e.state ≠ .retiring) (hs : e.state ≠ .spent) :
      EntryEdit mode e { e with publishPending := true }
  | hold (hk : e.kind ≠ .input) (hr : e.state ≠ .retiring) : EntryEdit mode e { e with held := true }
  | unhold (hk : e.kind ≠ .input) (hr : e.state ≠ .retiring) : EntryEdit mode e (e.unhold mode)
  | ask (hk : e.kind ≠ .output) (hr : e.state ≠ .retiring) : EntryEdit mode e { e with askPending := true }

/-- The states a host request can leave the part in (R9 to R15, R50, R56 to R58, R70 to R72, R119, R121, R159, R164, R177,
R184, R185). -/
inductive RequestLeaves (s : State) : State → Prop where
  | same : RequestLeaves s s
  | claim (op : ClaimOperands) (i : Index) (e : Entry) (he : claimedEntry op = some e) (hi : s.entry i = none)
      (hd : s.duplicates i e = false) : RequestLeaves s (s.setEntry i { e with state := s.initialState i e.kind })
  | empty (i : Index) (e : Entry) (he : s.entry i = some e) (hr : e.state ≠ .retiring) (hg : e.grounded = true) :
      RequestLeaves s (s.emptyEntry i).judgePins
  | edit (i : Index) (e x : Entry) (he : s.entry i = some e) (hx : EntryEdit (s.mode (s.home i)) e x) :
      RequestLeaves s (s.setEntry i x)
  | take (i : Index) (rest : List Index) (hq : s.queue = i :: rest) :
      RequestLeaves s ((s.takeHead i rest).servicePins s)
  | takeNone (hq : s.queue = []) : RequestLeaves s (s.servicePins s)
  | ackEvents (m0 m1 m2 : Byte) : RequestLeaves s ((s.withFlags (s.flags.ack m0 m1 m2)).servicePins s)
  | join (l : LineId) (hl : (s.line.get l).state = .detached) : RequestLeaves s (s.startJoin l)
  | rejoin (l : LineId) (hl : (s.line.get l).state = .off) :
      RequestLeaves s (s.withLine l { s.line.get l with rejoin := true })
  | detach (l : LineId) : RequestLeaves s (s.detachLine l).judgePins
  | settingWrite (item : Item) (n : Nat) (x : Settings) (hx : s.staged.put item n = some x) :
      RequestLeaves s (s.withStaged x)
  | apply : RequestLeaves s s.applyStaged.judgePins
  | clear : RequestLeaves s (s.clearPart.servicePins s)

theorem valueOperand_length {n : Byte} {v : Vector Byte 8} {x : Value} (h : valueOperand n v = some x) :
    x.length ≤ 8 := by
  unfold valueOperand at h
  split at h
  · cases h
    simp
  · cases h

/-- R10: an index CLAIM chooses is EMPTY. -/
theorem State.entry_of_chooseIndex {s : State} {x : Selector} {i : Index} (h : s.chooseIndex x = .ok i) :
    s.entry i = none := by
  cases x with
  | explicit j =>
    cases hj : s.entry j with
    | none =>
      simp only [State.chooseIndex, hj, Except.ok.injEq] at h
      exact h ▸ hj
    | some e => simp [State.chooseIndex, hj] at h
  | lowestFree bank =>
    simp only [State.chooseIndex] at h
    split at h
    next j hj =>
      cases h
      have hp := List.find?_some hj
      simp only [Bool.and_eq_true, Option.isNone_iff_eq_none] at hp
      exact hp.2
    next => cases h

/-- R70, R71: what the operand of a request on a publishing side names. -/
theorem publishingOperand_ok {s : State} {b : Byte} {i : Index} {e : Entry} (h : s.publishingOperand b = .ok (i, e)) :
    s.entry i = some e ∧ e.kind ≠ .input ∧ e.state ≠ .retiring := by
  unfold State.publishingOperand at h
  split at h
  · cases h
  · split at h
    · cases h
    · split at h
      · cases h
      · split at h
        · cases h
        · cases h
          exact ⟨by assumption, by assumption, by assumption⟩

theorem requestClaim_leaves (op : ClaimOperands) (s : State) : RequestLeaves s (requestClaim op s).1 := by
  unfold requestClaim
  split
  next x e _ he =>
    split
    next => exact .same
    next i hi =>
      split
      next => exact .same
      next hd => exact .claim op i e he (State.entry_of_chooseIndex hi) (Bool.eq_false_iff.mpr hd)
  next => exact .same

theorem requestRetire_leaves (b : Byte) (s : State) : RequestLeaves s (requestRetire b s).1 := by
  unfold requestRetire
  split
  next => exact .same
  next i _ =>
    split
    next => exact .same
    next e he =>
      split
      next => exact .same
      next hr =>
        split
        next hg => exact .empty i e he hr hg
        next hg => exact .edit i e _ he (.retire hr (Bool.eq_false_iff.mpr hg))

theorem requestSet_leaves (b n : Byte) (v : Vector Byte 8) (s : State) : RequestLeaves s (requestSet b n v s).1 := by
  unfold requestSet
  split
  next i x _ hx =>
    split
    next => exact .same
    next e he =>
      split
      next => exact .same
      next hk =>
        split
        next hs => exact .edit i e _ he (.stage x (valueOperand_length hx) (not_not.mp hk) hs)
        next => exact .same
  next => exact .same

theorem requestPublish_leaves (b : Byte) (s : State) : RequestLeaves s (requestPublish b s).1 := by
  unfold requestPublish
  split
  next => exact .same
  next i e h =>
    obtain ⟨he, hk, hr⟩ := publishingOperand_ok h
    split
    next => exact .same
    next hs => exact .edit i e _ he (.publish hk hr hs)

theorem requestHold_leaves (b : Byte) (s : State) : RequestLeaves s (requestHold b s).1 := by
  unfold requestHold
  split
  next => exact .same
  next i e h =>
    obtain ⟨he, hk, hr⟩ := publishingOperand_ok h
    exact .edit i e _ he (.hold hk hr)

theorem requestRelease_leaves (b : Byte) (s : State) : RequestLeaves s (requestRelease b s).1 := by
  unfold requestRelease
  split
  next => exact .same
  next i e h =>
    obtain ⟨he, hk, hr⟩ := publishingOperand_ok h
    exact .edit i e _ he (.unhold hk hr)

theorem requestAsk_leaves (b : Byte) (s : State) : RequestLeaves s (requestAsk b s).1 := by
  unfold requestAsk
  split
  next => exact .same
  next i _ =>
    split
    next => exact .same
    next e he =>
      split
      next => exact .same
      next hk =>
        split
        next => exact .same
        next hr => exact .edit i e _ he (.ask hk hr)

theorem requestTake_leaves (s : State) : RequestLeaves s (requestTake s).1 := by
  unfold requestTake
  split
  next hq => exact .takeNone hq
  next i rest hq => exact .take i rest hq

theorem requestAttach_leaves (b : Byte) (s : State) : RequestLeaves s (requestAttach b s).1 := by
  unfold requestAttach
  split
  next => exact .same
  next l _ =>
    split
    next hl => exact .join l hl
    next => exact .same
    next => exact .same
    next => exact .same
    next hl => exact .rejoin l hl

theorem requestSettingWrite_leaves (b : Byte) (v : BitVec 16) (s : State) :
    RequestLeaves s (requestSettingWrite b v s).1 := by
  unfold requestSettingWrite
  split
  next => exact .same
  next item _ =>
    split
    next => exact .same
    next x hx => exact .settingWrite item _ x hx

/-- What the twenty requests can do to the blocks. -/
theorem runRequest_leaves (r : Request) (s : State) : RequestLeaves s (runRequest r s).1 := by
  cases r with
  | nop => exact .same
  | claim op => exact requestClaim_leaves op s
  | retire b => exact requestRetire_leaves b s
  | read b =>
    show RequestLeaves s (requestRead b s).1
    unfold requestRead
    split <;> exact .same
  | lookup lb side tag =>
    show RequestLeaves s (requestLookup lb side tag s).1
    unfold requestLookup
    (repeat' split) <;> exact .same
  | set b n v => exact requestSet_leaves b n v s
  | publish b => exact requestPublish_leaves b s
  | hold b => exact requestHold_leaves b s
  | release b => exact requestRelease_leaves b s
  | ask b => exact requestAsk_leaves b s
  | take => exact requestTake_leaves s
  | events => exact .same
  | ackEvents m0 m1 m2 => exact .ackEvents m0 m1 m2
  | line b =>
    show RequestLeaves s (requestLine b s).1
    unfold requestLine
    split <;> exact .same
  | attach b => exact requestAttach_leaves b s
  | detach b =>
    show RequestLeaves s (requestDetach b s).1
    unfold requestDetach
    split
    next => exact .same
    next l _ => exact .detach l
  | settingWrite b v => exact requestSettingWrite_leaves b v s
  | settingRead b =>
    show RequestLeaves s (requestSettingRead b s).1
    unfold requestSettingRead
    split <;> exact .same
  | apply => exact .apply
  | clear => exact .clear

/-! ### Steps -/

/-- The port and the model's own queues replaced; no block changes. -/
def State.withOutside (s : State) (port : HostPort) (samples : List LineBit) (pending : List Instr) : State :=
  { s with port := port, samples := samples, pending := pending }

/-- A predicate of the blocks that every event of the part keeps, one field for each kind of event. -/
structure KeptByEvents (P : State → Prop) : Prop where
  outside : ∀ s port samples pending, P s → P (s.withOutside port samples pending)
  reset : P State.reset
  request : ∀ s t, P s → RequestLeaves s t → P t
  bit : ∀ s x, P s → P (s.withEngine x.line (bitAt x.line (s.engine.get x.line) (s.line.get x.line).attempt x).phase)
  frame : ∀ s l w, P s → s.canReceive l = true → w.legal = true →
    P ((s.withEngine l (.intermission 0)).takeFrame l w)
  query : ∀ s l w, P s → s.queriedInFlight l w = true → P (s.takeFrame l w)
  receiveError : ∀ s l kind, P s → s.canReceive l = true → P (s.receiveErrorOn l kind).judgePins
  selection : ∀ s l a, P s → s.selection l = some a → P (s.copyFrame l a)
  success : ∀ s l a, P s → s.sendingAttempt l = some a → P (s.transmitSucceeds l a)
  loss : ∀ s l a bits, P s → s.sendingAttempt l = some a →
    P (((s.withEngine l (.receiving bits)).emptyBuffer l).report l a .loss).judgePins
  transmitError : ∀ s l kind a, P s → s.sendingAttempt l = some a → kind.ofSender = true →
    P (s.transmitErrorOn l kind a).judgePins
  idleSequence : ∀ s l, P s → (s.engine.get l).countsIdle = true → P (s.idleSequenceOn l).judgePins
  period : ∀ s l, P s → (s.cycle.get l).periodTimer ≠ .stopped → P (s.periodExpires l)
  watch : ∀ s l, P s → (s.cycle.get l).watchTimer ≠ .stopped → P (s.watchExpires l).judgePins
  window : ∀ s p, P s → s.pins.get p = .repulse → P (s.withPins (s.pins.put p (pinFor (s.demand p))))

/-- R104: a sender that has lost receives. -/
theorem Phase.lose_receiving (x : Phase) : ∃ bits, x.lose = .receiving bits := by
  cases x with
  | sending bits => exact ⟨some bits, rfl⟩
  | _ => exact ⟨none, rfl⟩

section
variable {P : State → Prop} (K : KeptByEvents P)
include K

theorem KeptByEvents.withPort {s : State} (h : P s) (x : HostPort) : P (s.withPort x) :=
  K.outside s x s.samples s.pending h

theorem KeptByEvents.withPending {s : State} (h : P s) (x : List Instr) : P (s.withPending x) :=
  K.outside s s.port s.samples x h

theorem KeptByEvents.withSamples {s : State} (h : P s) (x : List LineBit) : P (s.withSamples x) :=
  K.outside s s.port x s.pending h

theorem KeptByEvents.takeRequest {s : State} (h : P s) (r : Request) : P (takeRequest r s).1 :=
  K.request s _ h (runRequest_leaves r s)

theorem KeptByEvents.noTransaction {s : State} (h : P s) : P s.noTransaction := by
  unfold State.noTransaction
  split
  · exact h
  · split
    · exact K.withPort h _
    · exact h

theorem KeptByEvents.transaction {s : State} (h : P s) (edges : Nat) (judged : State → State × Response)
    (hj : ∀ x, P x → P (judged x).1) : P (s.transaction edges judged) := by
  unfold State.transaction
  split
  · exact h
  · split
    · exact K.withPort h _
    · exact K.withPort (hj _ (K.withPort h _)) _

theorem KeptByEvents.hostRequest {s : State} (h : P s) (r : Request) (n : Nat) : P (s.hostRequest r n) := by
  unfold State.hostRequest
  refine K.transaction h _ _ fun x hx => ?_
  split
  · exact K.takeRequest hx r
  · exact hx

theorem KeptByEvents.judgeBytes {s : State} (h : P s) (bytes : List Byte) (extra : Nat) :
    P (judgeBytes bytes extra s).1 := by
  unfold Machine.judgeBytes
  split
  · split
    · exact h
    · split
      · exact K.takeRequest h _
      · exact h
    · exact h
  · exact h

theorem KeptByEvents.rawTransaction {s : State} (h : P s) (bytes : List Byte) (extra : Nat) :
    P (s.rawTransaction bytes extra) := by
  unfold State.rawTransaction
  split
  · exact K.noTransaction h
  · exact K.transaction h _ _ fun x hx => K.judgeBytes hx bytes extra

theorem KeptByEvents.receiveFrame {s : State} (h : P s) (l : LineId) (w : WireFrame) : P (s.receiveFrame l w) := by
  unfold State.receiveFrame
  split
  next hc =>
    split
    next hw => exact K.frame s l w h hc hw
    next => exact K.receiveError s l .form h hc
  next =>
    split
    next hq => exact K.query s l w h hq
    next => exact h

/-- R103, R104: the two events that end an attempt in a loss. -/
theorem KeptByEvents.losesArbitration {s : State} (h : P s) {l : LineId} {a : Attempt}
    (ha : s.sendingAttempt l = some a) : P (s.losesArbitration l a) := by
  obtain ⟨bits, hb⟩ := (s.engine.get l).lose_receiving
  unfold State.losesArbitration
  rw [hb]
  exact K.loss s l a bits h ha

/-- A command keeps the predicate. -/
theorem KeptByEvents.exec {s t : State} (h : P s) (c : Instr) (ht : exec c s = .next t) : P t := by
  cases hr : requestOf c with
  | some x =>
    obtain ⟨r, n⟩ := x
    rw [exec_request c r n s hr] at ht
    cases ht
    exact K.hostRequest h r n
  | none =>
    cases c with
    | powerOn => cases ht; exact K.outside State.reset _ s.samples s.pending K.reset
    | nrstAssert => cases ht; exact K.outside State.reset _ s.samples s.pending K.reset
    | nrstRelease ncsLow => cases ht; exact K.outside State.reset _ s.samples s.pending K.reset
    | emptyTransaction => cases ht; exact K.noTransaction h
    | transactionRejected bytes edges => cases ht; exact K.rawTransaction h bytes edges.val
    | dataFrame l tag payload => cases ht; exact K.receiveFrame h l _
    | queryFrame l tag => cases ht; exact K.receiveFrame h l _
    | recallFrame l => cases ht; exact K.receiveFrame h l _
    | beaconFrame l address cycle => cases ht; exact K.receiveFrame h l _
    | discardedFrame l w => cases ht; exact K.receiveFrame h l w
    | receiveError l kind =>
      cases ht
      split
      next hc => exact K.receiveError s l kind h (Bool.and_eq_true_iff.mp hc).1
      next => exact h
    | transmitSelection l =>
      cases ht
      split
      next a ha => exact K.selection s l a h ha
      next => exact h
    | transmitSuccess l =>
      cases ht
      split
      next a ha => exact K.success s l a h ha
      next => exact h
    | arbitrationLoss l =>
      cases ht
      split
      next a ha => exact K.losesArbitration h ha
      next => exact h
    | startCollision l =>
      cases ht
      split
      next a ha _ => exact K.loss s l a (some []) h ha
      next => exact h
    | transmitError l kind =>
      cases ht
      split
      next a ha hk => exact K.transmitError s l kind a h ha hk
      next => exact h
    | idleSequence l =>
      cases ht
      split
      next hc => exact K.idleSequence s l h hc
      next => exact h
    | periodExpiry l =>
      cases ht
      split
      next n hn => exact K.period s l h (by simp [hn])
      next => exact h
    | watchExpiry l =>
      cases ht
      split
      next n hn => exact K.watch s l h (by simp [hn])
      next => exact h
    | repulseWindowEnd p =>
      cases ht
      split
      next hp => exact K.window s p h hp
      next => exact h
    | transactionAcrossReset => cases ht; exact K.noTransaction h
    | _ => cases hr

/-- What the part does of itself keeps the predicate. -/
theorem KeptByEvents.idleStep {s : State} (h : P s) : P s.idleStep := by
  unfold State.idleStep
  split
  · exact K.withPending h _
  · split
    · exact K.withPending h _
    · split
      · exact h
      next x rest _ => exact K.withPending (K.bit _ x (K.withSamples h rest)) _

/-- What every event keeps, every step keeps. -/
theorem KeptByEvents.step {s t : State} (h : P s) (ht : step s = .next t) : P t := by
  unfold Machine.step at ht
  split at ht
  · cases ht
    exact K.idleStep h
  next c rest _ => exact K.exec (K.withPending h rest) c ht

end

end Sys2Proof.Machine

/-! PROOFS. The event pins follow the demand (R165, R167). -/

namespace Sys2Proof.Machine

open Sys2Proof.Safety

/-- R165: the demand of a pin is read from the latched flags, the queue and the routes. -/
theorem State.demand_congr {s t : State} (hf : t.flags = s.flags) (hq : t.queue = s.queue)
    (hr : t.applied.routes = s.applied.routes) (p : PinId) : t.demand p = s.demand p := by
  have hflag : ∀ f, t.flag f = s.flag f := by
    intro f
    cases f <;> simp [State.flag, hf, hq]
  simp only [State.demand, hflag, hr]

theorem pinsAgree_judgePins (s : State) : PinsAgree s.judgePins := by
  intro p hp
  rw [State.pins_judgePins] at hp ⊢
  exact PinState.judge_asserted _ _ hp

theorem pinsAgree_servicePins (s b : State) : PinsAgree (s.servicePins b) := by
  intro p hp
  rw [State.pins_servicePins] at hp ⊢
  exact PinState.service_asserted _ _ _ hp

/-- What leaves pins, flags, queue and routes alone keeps the agreement. -/
theorem pinsAgree_of_same {s t : State} (h : PinsAgree s) (hp : t.pins = s.pins) (hf : t.flags = s.flags)
    (hq : t.queue = s.queue) (hr : t.applied.routes = s.applied.routes) : PinsAgree t := by
  intro p hw
  rw [hp] at hw ⊢
  rw [State.demand_congr hf hq hr]
  exact h p hw

theorem Pins.get_put (x : Pins) (p q : PinId) (v : PinState) : (x.put p v).get q = if q = p then v else x.get q := by
  cases p <;> cases q <;> rfl

theorem pinFor_asserted (d : Bool) : pinFor d = .asserted ↔ d = true := by cases d <;> decide

/-- R167: at the end of a window its pin takes the level of its demand. -/
theorem pinsAgree_endWindow {s : State} (h : PinsAgree s) (p : PinId) :
    PinsAgree (s.withPins (s.pins.put p (pinFor (s.demand p)))) := by
  intro q hq
  rw [State.pins_withPins, Pins.get_put] at hq ⊢
  rw [State.demand_withPins]
  by_cases hqp : q = p
  · rw [if_pos hqp, hqp]
    exact pinFor_asserted _
  · rw [if_neg hqp] at hq ⊢
    exact h q hq

theorem pinsAgree_request {s t : State} (h : PinsAgree s) (ht : RequestLeaves s t) : PinsAgree t := by
  cases ht with
  | same => exact h
  | claim => exact pinsAgree_of_same h rfl rfl rfl rfl
  | empty => exact pinsAgree_judgePins _
  | edit => exact pinsAgree_of_same h rfl rfl rfl rfl
  | take => exact pinsAgree_servicePins _ _
  | takeNone => exact pinsAgree_servicePins _ _
  | ackEvents => exact pinsAgree_servicePins _ _
  | join => exact pinsAgree_of_same h rfl rfl rfl rfl
  | rejoin => exact pinsAgree_of_same h rfl rfl rfl rfl
  | detach => exact pinsAgree_judgePins _
  | settingWrite => exact pinsAgree_of_same h rfl rfl rfl rfl
  | apply => exact pinsAgree_judgePins _
  | clear => exact pinsAgree_servicePins _ _

theorem pinsAgree_reset : PinsAgree State.reset := by
  intro p
  cases p <;> decide

/-- Every event that reaches a flag, a route or the queue ends in a judgement of the pins. -/
theorem pinsAgree_keptByEvents : KeptByEvents PinsAgree where
  outside := fun _ _ _ _ h => pinsAgree_of_same h rfl rfl rfl rfl
  reset := pinsAgree_reset
  request := fun _ _ h ht => pinsAgree_request h ht
  bit := fun _ _ h => pinsAgree_of_same h rfl rfl rfl rfl
  frame := fun _ _ _ _ _ _ => pinsAgree_judgePins _
  query := fun _ _ _ _ _ => pinsAgree_judgePins _
  receiveError := fun _ _ _ _ _ => pinsAgree_judgePins _
  selection := fun s l a h _ => pinsAgree_of_same h (s.pins_copyFrame l a) (s.flags_copyFrame l a) (s.queue_copyFrame l a)
    (congrArg Settings.routes (s.applied_copyFrame l a))
  success := fun _ _ _ _ _ => pinsAgree_judgePins _
  loss := fun _ _ _ _ _ _ => pinsAgree_judgePins _
  transmitError := fun _ _ _ _ _ _ _ => pinsAgree_judgePins _
  idleSequence := fun _ _ _ _ => pinsAgree_judgePins _
  period := fun _ _ h _ => pinsAgree_of_same h rfl rfl rfl rfl
  watch := fun _ _ _ _ => pinsAgree_judgePins _
  window := fun _ p h _ => pinsAgree_endWindow h p

/-- Settles O57: what does not judge the pins leaves them and their demand alone. -/
theorem pinsFollowDemand : Obligations.PinsFollowDemand := fun _ _ h ht => pinsAgree_keptByEvents.step h ht

end Sys2Proof.Machine

/-! PROOFS. The host port: what a command does to it, nRST held low, and the length of the held response (R171, R174, R179). -/

namespace Sys2Proof.Machine

open Sys2Proof.Safety

/-! ### The length of an answer -/

theorem Answer.response_result_length (x : Answer) (n : Nat) (hx : x.result.length ≤ 45) (hn : n ≤ 46) :
    (x.response n).result.length ≤ 45 := by
  unfold Answer.response
  dsimp only
  split
  · simp only [List.length_append, List.length_replicate]
    omega
  · simp only [List.nil_append, List.length_replicate, List.length_nil]
    omega

theorem responseLength_le (r : Request) : r.responseLength ≤ 46 := by
  cases r <;> simp [Request.responseLength]

/-- R179: no request has more than the 45 result bytes of READ. -/
theorem runRequest_result_length (r : Request) (s : State) : (runRequest r s).2.result.length ≤ 45 := by
  have plain : ∀ x, (Answer.plain x).result.length ≤ 45 := fun x => by simp [Answer.plain]
  cases r with
  | claim op =>
    simp only [runRequest, requestClaim]
    (repeat' split) <;> simp [Answer.plain]
  | read b =>
    simp only [runRequest, requestRead]
    split
    · exact plain _
    · exact (s.entryView_length _).le
  | lookup lb side tag =>
    simp only [runRequest, requestLookup]
    (repeat' split) <;> simp [Answer.plain]
  | take =>
    simp only [runRequest, requestTake]
    split
    · exact plain _
    · simp [causeBytes]
  | events => simp [runRequest, requestEvents, State.eventBytes]
  | line b =>
    simp only [runRequest, requestLine]
    split
    · exact plain _
    · simp [State.lineView]
  | settingRead b =>
    simp only [runRequest, requestSettingRead]
    split
    · exact plain _
    · simp [State.settingView, bytes16]
  | _ =>
    simp only [runRequest, requestNop, requestRetire, requestSet, requestPublish, requestHold, requestRelease,
      requestAsk, requestAckEvents, requestAttach, requestDetach, requestSettingWrite, requestApply, requestClear]
    (repeat' split) <;> exact plain _

/-! ### What a command does to the port -/

/-- A judgement of a transaction leaves the port to it and answers at most 45 result bytes. -/
def JudgesWell (judged : State → State × Response) : Prop :=
  ∀ x, (judged x).1.port = x.port ∧ (judged x).2.result.length ≤ 45

theorem takeRequest_judgesWell (r : Request) : JudgesWell (takeRequest r) := fun x =>
  ⟨port_runRequest r x, Answer.response_result_length _ _ (runRequest_result_length r x) (responseLength_le r)⟩

theorem notTaken_judgesWell (status : Status) : JudgesWell (notTaken status) := fun _ => ⟨rfl, Nat.zero_le _⟩

theorem judgeBytes_judgesWell (bytes : List Byte) (extra : Nat) : JudgesWell (judgeBytes bytes extra) := by
  intro x
  unfold judgeBytes
  split
  · split
    · exact notTaken_judgesWell _ x
    · split
      · exact takeRequest_judgesWell _ x
      · exact notTaken_judgesWell _ x
    · exact notTaken_judgesWell _ x
  · exact notTaken_judgesWell _ x

/-- R20, R174: the part while nRST is low, with what the outside still has to come. -/
def State.lowReset (samples : List LineBit) (pending : List Instr) : State :=
  State.reset.withOutside { State.reset.port with inReset := true } samples pending

/-- What a command can do to the port: nRST driven low, a reset that ends with nRST high, a transaction, the end of a wait,
or nothing. -/
inductive PortMoves (s : State) : State → Prop where
  | low : PortMoves s (State.lowReset s.samples s.pending)
  | high (awaitRise : Bool) :
      PortMoves s (State.reset.withOutside { State.reset.port with awaitRise := awaitRise } s.samples s.pending)
  | transaction (edges : Nat) (judged : State → State × Response) (hj : JudgesWell judged) :
      PortMoves s (s.transaction edges judged)
  | ended : PortMoves s s.noTransaction
  | line (t : State) (ht : t.port = s.port) : PortMoves s t

theorem hostRequest_portMoves (r : Request) (n : Nat) (s : State) : PortMoves s (s.hostRequest r n) := by
  unfold State.hostRequest
  refine .transaction _ _ fun x => ?_
  split
  · exact takeRequest_judgesWell r x
  · exact notTaken_judgesWell _ x

theorem rawTransaction_portMoves (bytes : List Byte) (extra : Nat) (s : State) :
    PortMoves s (s.rawTransaction bytes extra) := by
  unfold State.rawTransaction
  split
  · exact .ended
  · exact .transaction _ _ (judgeBytes_judgesWell bytes extra)

/-- Only host commands and resets reach the port. -/
theorem exec_portMoves {c : Instr} {s t : State} (ht : exec c s = .next t) : PortMoves s t := by
  cases hr : requestOf c with
  | some x =>
    rw [exec_request c x.1 x.2 s hr] at ht
    cases ht
    exact hostRequest_portMoves x.1 x.2 s
  | none =>
    cases c with
    | powerOn => cases ht; exact .high false
    | nrstAssert => cases ht; exact .low
    | nrstRelease ncsLow => cases ht; exact .high ncsLow
    | emptyTransaction => cases ht; exact .ended
    | transactionAcrossReset => cases ht; exact .ended
    | transactionRejected bytes edges => cases ht; exact rawTransaction_portMoves bytes edges.val s
    | dataFrame l tag payload => cases ht; exact .line _ (s.port_receiveFrame l _)
    | queryFrame l tag => cases ht; exact .line _ (s.port_receiveFrame l _)
    | recallFrame l => cases ht; exact .line _ (s.port_receiveFrame l _)
    | beaconFrame l address cycle => cases ht; exact .line _ (s.port_receiveFrame l _)
    | discardedFrame l w => cases ht; exact .line _ (s.port_receiveFrame l w)
    | receiveError l kind => cases ht; exact .line _ (by split <;> simp)
    | transmitSelection l => cases ht; exact .line _ (by split <;> simp)
    | transmitSuccess l => cases ht; exact .line _ (by split <;> simp [State.transmitSucceeds])
    | arbitrationLoss l => cases ht; exact .line _ (by split <;> simp [State.losesArbitration])
    | startCollision l => cases ht; exact .line _ (by split <;> simp [State.collides])
    | transmitError l kind => cases ht; exact .line _ (by split <;> simp)
    | idleSequence l => cases ht; exact .line _ (by split <;> simp)
    | periodExpiry l => cases ht; exact .line _ (by split <;> simp)
    | watchExpiry l => cases ht; exact .line _ (by split <;> simp [State.watchExpires])
    | repulseWindowEnd p => cases ht; exact .line _ (by split <;> simp)
    | _ => cases hr

theorem State.port_idleStep (s : State) : s.idleStep.port = s.port := by
  unfold State.idleStep
  (repeat' split) <;> rfl

/-! ### The held response -/

theorem PortMoves.responseFits {s t : State} (ht : PortMoves s t) (h : ResponseFits s) : ResponseFits t := by
  cases ht with
  | low => exact Nat.zero_le _
  | high => exact Nat.zero_le _
  | transaction edges judged hj =>
    unfold ResponseFits State.transaction
    split
    · exact h
    · split
      · exact h
      · exact (hj _).2
  | ended =>
    unfold ResponseFits State.noTransaction
    (repeat' split) <;> exact h
  | line t ht =>
    unfold ResponseFits
    rw [ht]
    exact h

theorem responseFits_step {s t : State} (h : ResponseFits s) (ht : step s = .next t) : ResponseFits t := by
  unfold step at ht
  split at ht
  · cases ht
    unfold ResponseFits
    rw [s.port_idleStep]
    exact h
  · exact (exec_portMoves ht).responseFits h

/-! ### nRST held low -/

theorem resetHeld_lowReset (samples : List LineBit) (pending : List Instr) :
    ResetHeld (State.lowReset samples pending) := fun _ => rfl

theorem resetHeld_high {t : State} (h : t.port.inReset = false) : ResetHeld t := fun ht => by
  rw [h] at ht
  cases ht

/-- A command taken while nRST is high. -/
theorem PortMoves.resetHeld {s t : State} (ht : PortMoves s t) (h : s.port.inReset = false) : ResetHeld t := by
  cases ht with
  | low => exact resetHeld_lowReset _ _
  | high => exact resetHeld_high rfl
  | transaction edges judged hj =>
    unfold State.transaction
    split
    · exact resetHeld_high h
    · split
      · exact resetHeld_high h
      · refine resetHeld_high ?_
        show (judged _).1.port.inReset = false
        rw [(hj _).1]
        exact h
  | ended =>
    unfold State.noTransaction
    (repeat' split) <;> exact resetHeld_high h
  | line t ht => exact resetHeld_high (ht ▸ h)

section
variable (samples : List LineBit) (pending : List Instr)

/-- R174: while nRST is low the port takes no request. -/
theorem hostRequest_lowReset (r : Request) (n : Nat) :
    (State.lowReset samples pending).hostRequest r n = State.lowReset samples pending := rfl

theorem rawTransaction_lowReset (bytes : List Byte) (extra : Nat) :
    (State.lowReset samples pending).rawTransaction bytes extra = State.lowReset samples pending := by
  unfold State.rawTransaction
  split <;> rfl

/-- A DETACHED line receives nothing. -/
theorem receiveFrame_lowReset (l : LineId) (w : WireFrame) :
    (State.lowReset samples pending).receiveFrame l w = State.lowReset samples pending := by
  cases l <;> rfl

/-- A command taken while nRST is low is a reset, or leaves the part as it is. -/
theorem exec_lowReset {c : Instr} {t : State} (ht : exec c (State.lowReset samples pending) = .next t) :
    t.port.inReset = false ∨ t = State.lowReset samples pending := by
  cases hr : requestOf c with
  | some x =>
    rw [exec_request c x.1 x.2 _ hr] at ht
    cases ht
    exact .inr (hostRequest_lowReset samples pending x.1 x.2)
  | none =>
    cases c with
    | powerOn => cases ht; exact .inl rfl
    | nrstAssert => cases ht; exact .inr rfl
    | nrstRelease ncsLow => cases ht; exact .inl rfl
    | transactionRejected bytes edges => cases ht; exact .inr (rawTransaction_lowReset samples pending bytes edges.val)
    | dataFrame l tag payload => cases ht; exact .inr (receiveFrame_lowReset samples pending l _)
    | queryFrame l tag => cases ht; exact .inr (receiveFrame_lowReset samples pending l _)
    | recallFrame l => cases ht; exact .inr (receiveFrame_lowReset samples pending l _)
    | beaconFrame l address cycle => cases ht; exact .inr (receiveFrame_lowReset samples pending l _)
    | discardedFrame l w => cases ht; exact .inr (receiveFrame_lowReset samples pending l w)
    | emptyTransaction | transactionAcrossReset => cases ht; exact .inr rfl
    | receiveError l kind | transmitSelection l | transmitSuccess l | arbitrationLoss l | startCollision l
    | transmitError l kind | idleSequence l | periodExpiry l | watchExpiry l => cases ht; cases l <;> exact .inr rfl
    | repulseWindowEnd p => cases ht; cases p <;> exact .inr rfl
    | _ => cases hr

/-- With no command waiting, a part held in reset takes its line bits to no effect. -/
theorem idleStep_lowReset : ∃ rest, (State.lowReset samples pending).idleStep = State.lowReset rest pending := by
  cases samples with
  | nil => exact ⟨[], rfl⟩
  | cons x rest =>
    refine ⟨rest, ?_⟩
    obtain ⟨l, dominant, level⟩ := x
    show (State.lowReset rest pending).bit _ = _
    cases l <;> simp [State.bit, State.lowReset, State.withOutside, bitAt, State.reset, PerLine.get, State.withEngine,
      PerLine.set, State.withPending]

end

theorem resetHeld_step {s t : State} (h : ResetHeld s) (ht : step s = .next t) : ResetHeld t := by
  cases hr : s.port.inReset with
  | false =>
    unfold step at ht
    split at ht
    · cases ht
      exact resetHeld_high (s.port_idleStep ▸ hr)
    · exact (exec_portMoves ht).resetHeld hr
  | true =>
    have hs : s = State.lowReset s.samples s.pending := h hr
    unfold step at ht
    split at ht
    · cases ht
      rw [hs]
      obtain ⟨rest, he⟩ := idleStep_lowReset s.samples s.pending
      exact he ▸ resetHeld_lowReset rest s.pending
    next c rest hp =>
      have hw : s.withPending rest = State.lowReset s.samples rest := congrArg (·.withPending rest) hs
      rw [hw] at ht
      obtain hhigh | rfl := exec_lowReset s.samples rest ht
      · exact resetHeld_high hhigh
      · exact resetHeld_lowReset _ _

/-- Settles O58, by what each command can do to the port. -/
theorem portStaysConsistent : Obligations.PortStaysConsistent :=
  ⟨fun _ _ h ht => resetHeld_step h ht, fun _ _ h ht => responseFits_step h ht⟩

end Sys2Proof.Machine

/-! PROOFS. The settings unit: what a portion does at an occasion, and the invariants of its copies and of what waits
(R183 to R188). -/

namespace Sys2Proof.Machine

open Sys2Proof.Safety

/-! ### Bank maps -/

theorem BankMap.get_ext {m n : BankMap} (h : ∀ b, m.get b = n.get b) : m = n := by
  obtain ⟨m0, m1, m2, m3⟩ := m
  obtain ⟨n0, n1, n2, n3⟩ := n
  have h0 := h 0
  have h1 := h 1
  have h2 := h 2
  have h3 := h 3
  simp only [BankMap.get] at h0 h1 h2 h3
  simp only [h0, h1, h2, h3]

theorem mem_bankIndices (b : Fin 4) : b ∈ bankIndices := by
  revert b
  decide

/-- R188: a map moves a bank when it differs at all. -/
theorem movesBank_eq (old new : BankMap) : movesBank old new = decide (new ≠ old) := by
  by_cases h : new = old
  · simp [movesBank, h]
  · have hb : ∃ b, old.get b ≠ new.get b := by
      by_contra hn
      exact h (BankMap.get_ext fun b => (not_not.mp (not_exists.mp hn b)).symm)
    obtain ⟨b, hb⟩ := hb
    have : movesBank old new = true := List.any_eq_true.mpr ⟨b, mem_bankIndices b, by simpa using hb⟩
    simp [this, h]

/-! ### Portions at an occasion -/

/-- R186: the portion of a line waits on after an occasion. -/
def State.lineStays (s : State) (p : ApplySet) (l : LineId) : Bool :=
  p.lineWaiting.get l && !s.isDetached l && decide (p.values.line.get l ≠ s.applied.line.get l)

/-- R188: the bank-map portion waits on after an occasion. -/
def State.banksStay (s : State) (p : ApplySet) : Bool :=
  p.bankWaiting && decide (p.values.bankMap ≠ s.applied.bankMap) && !bothDetached s

/-- R188: the bank-map portion of a set goes into force at an occasion. -/
def State.banksGo (s : State) (p : ApplySet) : Bool :=
  p.bankWaiting && decide (p.values.bankMap ≠ s.applied.bankMap) && bothDetached s &&
    guardHolds p.values.bankMap s.entries

/-- R27, R188: the bank-map portion of a set is refused at an occasion. -/
def State.banksFail (s : State) (p : ApplySet) : Bool :=
  p.bankWaiting && decide (p.values.bankMap ≠ s.applied.bankMap) && bothDetached s &&
    !guardHolds p.values.bankMap s.entries

@[simp] theorem State.applied_applyLineItems (s : State) (l : LineId) (x : LineSettings) :
    (s.applyLineItems l x).applied = s.applied.putLine l x := by
  unfold State.applyLineItems
  dsimp only
  split <;> simp

@[simp] theorem State.applied_moveBanks (s : State) (m : BankMap) :
    (s.moveBanks m).applied = { s.applied with bankMap := m } := rfl

section
variable {s : State} {p : ApplySet}

theorem State.tryLine_none (l : LineId) (h : s.applySet = none) : s.tryLine l = s := by
  unfold State.tryLine
  rw [h]

theorem State.tryBanks_none (h : s.applySet = none) : s.tryBanks = s := by
  unfold State.tryBanks
  rw [h]

theorem State.finishSet_none (h : s.applySet = none) : s.finishSet = s := by
  unfold State.finishSet
  rw [h]

theorem PerLine.set_eq_self {α : Type} {q : PerLine α} {l : LineId} {x : α} (h : q.get l = x) : q.set l x = q := by
  rw [← h, PerLine.set_get]

/-- R186: a line portion at an occasion, by what becomes of it. -/
theorem State.tryLine_some (l : LineId) (h : s.applySet = some p) :
    s.tryLine l =
      (if p.lineWaiting.get l && s.isDetached l then s.applyLineItems l (p.values.line.get l) else s).withApplySet
        (some { p with lineWaiting := p.lineWaiting.set l (s.lineStays p l) }) := by
  unfold State.tryLine State.lineStays
  simp only [h]
  cases hw : p.lineWaiting.get l with
  | false =>
    simp only [Bool.not_false, if_true, Bool.false_and, Bool.false_eq_true, if_false, PerLine.set_eq_self hw, ← h]
    rfl
  | true =>
    cases hd : s.isDetached l with
    | true => simp
    | false =>
      by_cases hv : p.values.line.get l = s.applied.line.get l
      · simp [hv]
      · simp only [Bool.not_true, Bool.false_eq_true, if_false, Bool.and_false, Bool.not_false, Bool.and_true,
          decide_true, ne_eq, hv, not_false_eq_true, PerLine.set_eq_self hw, ← h]
        rfl

/-- R188: a bank-map portion at an occasion, by what becomes of it. -/
theorem State.tryBanks_some (h : s.applySet = some p) :
    s.tryBanks =
      ((if s.banksGo p then s.moveBanks p.values.bankMap else s).withApplySet
        (some { p with bankWaiting := s.banksStay p })).raiseIf (s.banksFail p) .applyFault := by
  unfold State.tryBanks State.banksGo State.banksStay State.banksFail bothDetached State.raiseIf
  simp only [h, movesBank_eq]
  cases hw : p.bankWaiting with
  | false =>
    simp only [Bool.not_false, if_true, Bool.false_and, Bool.false_eq_true, if_false]
    rw [show ({ p with bankWaiting := false } : ApplySet) = p by rw [← hw], ← h]
    rfl
  | true =>
    by_cases hm : p.values.bankMap = s.applied.bankMap
    · simp [hm]
    · cases hd : (s.isDetached .a && s.isDetached .b) with
      | false =>
        simp only [Bool.not_true, Bool.false_eq_true, if_false, ne_eq, hm, not_false_eq_true, decide_true, Bool.true_and,
          Bool.false_and, Bool.not_false]
        rw [show ({ p with bankWaiting := true } : ApplySet) = p by rw [← hw], ← h]
        rfl
      | true =>
        cases hg : guardHolds p.values.bankMap s.entries <;> simp [hm]

theorem State.applySet_tryLine (l : LineId) (h : s.applySet = some p) :
    (s.tryLine l).applySet = some { p with lineWaiting := p.lineWaiting.set l (s.lineStays p l) } := by
  rw [State.tryLine_some l h]
  rfl

theorem State.applied_tryLine (l : LineId) (h : s.applySet = some p) :
    (s.tryLine l).applied =
      if p.lineWaiting.get l && s.isDetached l then s.applied.putLine l (p.values.line.get l) else s.applied := by
  rw [State.tryLine_some l h]
  split <;> simp

theorem State.applySet_tryBanks (h : s.applySet = some p) :
    s.tryBanks.applySet = some { p with bankWaiting := s.banksStay p } := by
  rw [State.tryBanks_some h]
  simp

theorem State.applied_tryBanks (h : s.applySet = some p) :
    s.tryBanks.applied = if s.banksGo p then { s.applied with bankMap := p.values.bankMap } else s.applied := by
  rw [State.tryBanks_some h]
  split <;> simp

theorem State.applySet_finishSet (h : s.applySet = some p) :
    s.finishSet.applySet = if p.lineWaiting.a || p.lineWaiting.b || p.bankWaiting then some p else none := by
  rw [State.finishSet_some s p h]
  split
  · exact h
  · rfl

end

/-- What a set is put together from stays apart from its bookkeeping: the bank map is no line's item. -/
@[simp] theorem Settings.bankMap_putLine (x : Settings) (l : LineId) (y : LineSettings) :
    (x.putLine l y).bankMap = x.bankMap := rfl

@[simp] theorem Settings.routes_putLine (x : Settings) (l : LineId) (y : LineSettings) :
    (x.putLine l y).routes = x.routes := rfl

@[simp] theorem Settings.line_putLine (x : Settings) (l : LineId) (y : LineSettings) :
    (x.putLine l y).line = x.line.set l y := rfl

/-! ### Line states and DETACHED -/

theorem State.isDetached_of_line {s t : State} {m : LineId} (h : t.line.get m = s.line.get m) :
    t.isDetached m = s.isDetached m := by
  unfold State.isDetached
  rw [h]

theorem State.isDetached_of_participates {s : State} {l : LineId} (h : s.participates l = true) :
    s.isDetached l = false := by
  obtain h | h := (participates_iff s l).mp h <;> simp [State.isDetached, h]

theorem LineCtl.settle_detached (c : LineCtl) : (c.settle.state = .detached) ↔ c.state = .detached := by
  unfold LineCtl.settle
  split
  next h => simp [h.1]
  next =>
    split
    next h => simp [h.1]
    next => rfl

@[simp] theorem State.isDetached_withCounts (s : State) (l : LineId) (t r : Nat) (m : LineId) :
    (s.withCounts l t r).isDetached m = s.isDetached m := by
  unfold State.withCounts
  simp only [State.isDetached_raiseIf]
  obtain rfl | rfl := LineId.eq_or_other l m
  · rw [Bool.eq_iff_iff]
    simp [State.isDetached, LineCtl.settle_detached]
  · exact State.isDetached_of_line (by simp)

/-! ### What an event does to the settings and to DETACHED -/

/-- The settings and the DETACHED lines are the same. -/
structure SameDetached (s t : State) : Prop where
  settings : SameSettings s t
  detached : ∀ m, t.isDetached m = s.isDetached m

theorem SameDetached.rfl {s : State} : SameDetached s s := ⟨⟨Eq.refl _, Eq.refl _, Eq.refl _⟩, fun _ => Eq.refl _⟩

theorem SameDetached.trans {s t u : State} (h : SameDetached s t) (g : SameDetached t u) : SameDetached s u :=
  ⟨⟨g.settings.1.trans h.settings.1, g.settings.2.1.trans h.settings.2.1, g.settings.2.2.trans h.settings.2.2⟩,
    fun m => (g.detached m).trans (h.detached m)⟩

/-- An event that leaves settings and controllers alone. -/
theorem SameDetached.of_line {s t : State} (hs : t.staged = s.staged) (ha : t.applied = s.applied)
    (hp : t.applySet = s.applySet) (hl : t.line = s.line) : SameDetached s t :=
  ⟨⟨hs, ha, hp⟩, fun _ => State.isDetached_of_line (by rw [hl])⟩

theorem isDetached_emptyBuffer (s : State) (l m : LineId) : (s.emptyBuffer l).isDetached m = s.isDetached m := by
  obtain rfl | rfl := LineId.eq_or_other l m
  · simp [State.emptyBuffer, State.isDetached]
  · exact State.isDetached_of_line (by simp)

theorem sameDetached_emptyBuffer (s : State) (l : LineId) : SameDetached s (s.emptyBuffer l) :=
  ⟨⟨rfl, rfl, rfl⟩, isDetached_emptyBuffer s l⟩

theorem sameDetached_withCounts (s : State) (l : LineId) (t r : Nat) : SameDetached s (s.withCounts l t r) :=
  ⟨⟨by simp, by simp, by simp⟩, fun m => by simp⟩

theorem sameDetached_report (s : State) (l : LineId) (a : Attempt) (x : Ending) : SameDetached s (s.report l a x) :=
  .of_line (by simp) (by simp) (by simp) (by simp)

theorem sameDetached_noteError (s : State) (l : LineId) (kind : ErrorKind) : SameDetached s (s.noteError l kind) := by
  refine ⟨⟨rfl, rfl, rfl⟩, fun m => ?_⟩
  obtain rfl | rfl := LineId.eq_or_other l m
  · simp [State.noteError, State.isDetached]
  · exact State.isDetached_of_line (by simp)

theorem sameDetached_withEngine (s : State) (l : LineId) (x : Phase) : SameDetached s (s.withEngine l x) :=
  .of_line rfl rfl rfl rfl

theorem sameDetached_judgePins (s : State) : SameDetached s s.judgePins := .of_line rfl rfl rfl rfl

theorem sameDetached_takeFrame (s : State) (l : LineId) (w : WireFrame) : SameDetached s (s.takeFrame l w) := by
  have hcount : SameDetached s (s.countReception l) := sameDetached_withCounts s l _ _
  exact hcount.trans (.of_line (by simp [State.takeFrame]) (by simp [State.takeFrame]) (by simp [State.takeFrame])
    (by simp [State.takeFrame]))

theorem sameDetached_receiveErrorOn (s : State) (l : LineId) (kind : ErrorKind) :
    SameDetached s (s.receiveErrorOn l kind) :=
  ((sameDetached_withEngine s l _).trans (sameDetached_noteError _ l kind)).trans (sameDetached_withCounts _ l _ _)

theorem sameDetached_copyFrame (s : State) (l : LineId) (a : Attempt) : SameDetached s (s.copyFrame l a) := by
  refine ⟨⟨by simp, by simp, by simp⟩, fun m => ?_⟩
  obtain rfl | rfl := LineId.eq_or_other l m
  · unfold State.copyFrame State.isDetached
    split <;> simp
  · exact State.isDetached_of_line (by simp)

theorem sameDetached_transmitSucceeds (s : State) (l : LineId) (a : Attempt) :
    SameDetached s (s.transmitSucceeds l a) :=
  ((((sameDetached_withEngine s l _).trans (sameDetached_withCounts _ l _ _)).trans
    (sameDetached_emptyBuffer _ l)).trans (sameDetached_report _ l a _)).trans (sameDetached_judgePins _)

theorem sameDetached_loss (s : State) (l : LineId) (a : Attempt) (x : Phase) :
    SameDetached s (((s.withEngine l x).emptyBuffer l).report l a .loss).judgePins :=
  (((sameDetached_withEngine s l x).trans (sameDetached_emptyBuffer _ l)).trans (sameDetached_report _ l a _)).trans
    (sameDetached_judgePins _)

theorem line_enterOff (s : State) (l : LineId) (a : Attempt) :
    (s.enterOff l a).line.get l =
      { s.line.get l with state := .off, transmitCount := 0, receiveCount := 0, recovery := 0, rejoin := false,
                          attempt := none } := by
  simp [State.enterOff, State.emptyBuffer]

theorem sameDetached_enterOff (s : State) (l : LineId) (a : Attempt) (h : s.participates l = true) :
    SameDetached s (s.enterOff l a) := by
  refine ⟨⟨by simp, by simp, by simp⟩, fun m => ?_⟩
  obtain rfl | rfl := LineId.eq_or_other l m
  · rw [State.isDetached_of_participates h, State.isDetached, line_enterOff]
    rfl
  · exact State.isDetached_of_line (by simp)

theorem State.participates_of_line {s t : State} {l : LineId} (h : (t.line.get l).state = (s.line.get l).state) :
    t.participates l = s.participates l := by
  unfold State.participates
  rw [h]

theorem participates_noteError (s : State) (l : LineId) (kind : ErrorKind) (m : LineId) :
    (s.noteError l kind).participates m = s.participates m := by
  obtain rfl | rfl := LineId.eq_or_other l m
  · exact State.participates_of_line (by simp [State.noteError])
  · exact State.participates_of_line (by simp)

theorem sameDetached_transmitErrorOn (s : State) (l : LineId) (kind : ErrorKind) (a : Attempt)
    (h : s.participates l = true) : SameDetached s (s.transmitErrorOn l kind a) := by
  unfold State.transmitErrorOn
  dsimp only
  have hnoted : SameDetached s ((s.withEngine l (errorFlag (s.line.get l).state 0)).noteError l kind) :=
    (sameDetached_withEngine s l _).trans (sameDetached_noteError _ l kind)
  split
  · exact hnoted.trans (sameDetached_enterOff _ l a ((participates_noteError _ l kind l).trans h))
  · exact ((hnoted.trans (sameDetached_withCounts _ l _ _)).trans (sameDetached_emptyBuffer _ l)).trans
      (sameDetached_report _ l a _)

theorem line_completeJoin (s : State) (l : LineId) :
    (s.completeJoin l).line.get l = { s.line.get l with state := (s.line.get l).joined } := by
  simp [State.completeJoin]

theorem LineCtl.joined_participates (c : LineCtl) : c.joined = .active ∨ c.joined = .guarded := by
  unfold LineCtl.joined
  split
  · exact .inl rfl
  · exact .inr rfl

theorem sameDetached_completeJoin (s : State) (l : LineId) (h : (s.line.get l).state = .joining) :
    SameDetached s (s.completeJoin l) := by
  refine ⟨⟨by simp, by simp, by simp⟩, fun m => ?_⟩
  obtain rfl | rfl := LineId.eq_or_other l m
  · simp only [State.isDetached, line_completeJoin, h]
    obtain hj | hj := (s.line.get m).joined_participates <;> rw [hj] <;> rfl
  · exact State.isDetached_of_line (by simp)

/-- A predicate of the settings and of the DETACHED lines, kept by the events that reach them. -/
structure KeptBySettings (P : State → Prop) : Prop where
  same : ∀ s t, P s → SameDetached s t → P t
  reset : P State.reset
  written : ∀ s item n x, P s → s.staged.put item n = some x → P (s.withStaged x)
  apply : ∀ s, P s → P s.applyStaged
  attach : ∀ s t, P s → SameSettings s t → (∀ m, t.isDetached m = true → s.isDetached m = true) → P t
  notice : ∀ s t l, P s → SameSettings s t → t.isDetached l.other = s.isDetached l.other → P (t.notice l)
  notices : ∀ s t, P s → SameSettings s t → P ((t.notice .a).notice .b)

section
variable {P : State → Prop} (K : KeptBySettings P)
include K

theorem KeptBySettings.detachLine {s : State} (h : P s) (l : LineId) : P (s.detachLine l) := by
  unfold State.detachLine
  split
  · exact K.notice s s l h ⟨rfl, rfl, rfl⟩ rfl
  · exact K.notice s _ l h ⟨by simp, by simp, by simp⟩ (State.isDetached_of_line (by simp))

theorem KeptBySettings.clearPart {s : State} (h : P s) : P s.clearPart := by
  refine K.notices s _ h ?_
  cases s.isDetached .a <;> cases s.isDetached .b <;> exact ⟨by simp, by simp, by simp⟩

theorem KeptBySettings.endRecovery {s : State} (h : P s) (l : LineId) (hl : (s.line.get l).state = .off) :
    P (s.endRecovery l) := by
  unfold State.endRecovery
  dsimp only
  split
  · refine K.same s _ h ⟨⟨by simp, by simp, by simp⟩, fun m => ?_⟩
    obtain rfl | rfl := LineId.eq_or_other l m
    · simp [State.isDetached, hl]
    · exact State.isDetached_of_line (by simp)
  · exact K.notice s _ l h ⟨by simp, by simp, by simp⟩ (State.isDetached_of_line (by simp))

theorem KeptBySettings.idleSequenceOn {s : State} (h : P s) (l : LineId) : P (s.idleSequenceOn l) := by
  unfold State.idleSequenceOn
  split
  next => exact h
  next hl => exact K.same s _ h (sameDetached_completeJoin s l hl)
  next => exact K.same s _ h (sameDetached_withEngine s l _)
  next => exact K.same s _ h (sameDetached_withEngine s l _)
  next hl =>
    unfold State.recoveryStep
    dsimp only
    split
    · exact K.endRecovery h l hl
    · refine K.same s _ h ⟨⟨rfl, rfl, rfl⟩, fun m => ?_⟩
      obtain rfl | rfl := LineId.eq_or_other l m
      · simp [State.isDetached]
      · exact State.isDetached_of_line (by simp)

theorem KeptBySettings.request {s t : State} (h : P s) (ht : RequestLeaves s t) : P t := by
  cases ht with
  | same => exact h
  | claim => exact K.same s _ h (.of_line rfl rfl rfl rfl)
  | empty => exact K.same s _ h (.of_line rfl rfl rfl rfl)
  | edit => exact K.same s _ h (.of_line rfl rfl rfl rfl)
  | take i rest =>
    have hline : (s.takeHead i rest).line = s.line := by unfold State.takeHead; split <;> rfl
    have hset : SameSettings s (s.takeHead i rest) := by unfold State.takeHead; split <;> exact ⟨rfl, rfl, rfl⟩
    exact K.same s _ h (.of_line hset.1 hset.2.1 hset.2.2 hline)
  | takeNone => exact K.same s _ h (.of_line rfl rfl rfl rfl)
  | ackEvents => exact K.same s _ h (.of_line rfl rfl rfl rfl)
  | join l hl =>
    refine K.attach s _ h ⟨rfl, rfl, rfl⟩ fun m hm => ?_
    obtain rfl | rfl := LineId.eq_or_other l m
    · simp [State.isDetached, hl]
    · rwa [State.isDetached_of_line (s.line_startJoin_other l)] at hm
  | rejoin l hl =>
    refine K.same s _ h ⟨⟨rfl, rfl, rfl⟩, fun m => ?_⟩
    obtain rfl | rfl := LineId.eq_or_other l m
    · simp [State.isDetached]
    · exact State.isDetached_of_line (by simp)
  | detach l => exact K.same _ _ (K.detachLine h l) (sameDetached_judgePins _)
  | settingWrite item n x hx => exact K.written s item n x h hx
  | apply => exact K.same _ _ (K.apply s h) (sameDetached_judgePins _)
  | clear => exact K.same _ _ (K.clearPart h) (.of_line rfl rfl rfl rfl)

theorem KeptBySettings.keptByEvents : KeptByEvents P where
  outside := fun s _ _ _ h => K.same s _ h (.of_line rfl rfl rfl rfl)
  reset := K.reset
  request := fun _ _ h ht => K.request h ht
  bit := fun s _ h => K.same s _ h (sameDetached_withEngine s _ _)
  frame := fun s l w h _ _ => K.same s _ h ((sameDetached_withEngine s l _).trans (sameDetached_takeFrame _ l w))
  query := fun s l w h _ => K.same s _ h (sameDetached_takeFrame s l w)
  receiveError := fun s l kind h _ =>
    K.same s _ h ((sameDetached_receiveErrorOn s l kind).trans (sameDetached_judgePins _))
  selection := fun s l a h _ => K.same s _ h (sameDetached_copyFrame s l a)
  success := fun s l a h _ => K.same s _ h (sameDetached_transmitSucceeds s l a)
  loss := fun s l a _ h _ => K.same s _ h (sameDetached_loss s l a _)
  transmitError := fun s l kind a h ha _ =>
    K.same s _ h ((sameDetached_transmitErrorOn s l kind a ((sendingAttempt_iff s l a).mp ha).1).trans
      (sameDetached_judgePins _))
  idleSequence := fun _ l h _ => K.same _ _ (K.idleSequenceOn h l) (sameDetached_judgePins _)
  period := fun s _ h _ => K.same s _ h (.of_line rfl rfl rfl rfl)
  watch := fun s l h _ => K.same s _ h (.of_line (by simp) (by simp) (by simp) (by simp))
  window := fun s _ h _ => K.same s _ h (.of_line rfl rfl rfl rfl)

end

/-! ### The ranges of the copies -/

theorem settingsFit_iff (x : Settings) : SettingsFit x ↔ ∀ l, LineItemsFit (x.line.get l) :=
  ⟨fun h l => by cases l <;> [exact h.1; exact h.2], fun h => ⟨h .a, h .b⟩⟩

theorem settingsFit_putLine {x : Settings} (h : SettingsFit x) (l : LineId) {y : LineSettings} (hy : LineItemsFit y) :
    SettingsFit (x.putLine l y) := by
  rw [settingsFit_iff] at h ⊢
  intro m
  rw [Settings.line_putLine, PerLine.get_set]
  split
  · exact hy
  · exact h m

theorem within_eq_some {low high n v : Nat} (h : within low high n = some v) : low ≤ v ∧ v ≤ high := by
  unfold within at h
  split at h
  · cases h
    assumption
  · cases h

/-- R184: a value in range keeps a copy in range. -/
theorem settingsFit_put {x y : Settings} {item : Item} {n : Nat} (h : SettingsFit x) (hy : x.put item n = some y) :
    SettingsFit y := by
  have hl := (settingsFit_iff x).mp h
  cases item with
  | bankMap => cases hy; exact h
  | route f =>
    obtain ⟨v, _, rfl⟩ := Option.map_eq_some_iff.mp hy
    exact h
  | nodeAddress l =>
    obtain ⟨v, hv, rfl⟩ := Option.map_eq_some_iff.mp hy
    obtain ⟨_, _, h2⟩ := hl l
    obtain ⟨h0, h1⟩ := within_eq_some hv
    exact settingsFit_putLine h l ⟨h0, h1, h2⟩
  | cyclePeriod l =>
    obtain ⟨v, hv, rfl⟩ := Option.map_eq_some_iff.mp hy
    obtain ⟨h0, h1, _, _, h4⟩ := hl l
    obtain ⟨h2, h3⟩ := within_eq_some hv
    exact settingsFit_putLine h l ⟨h0, h1, h2, h3, h4⟩
  | caution l =>
    obtain ⟨v, hv, rfl⟩ := Option.map_eq_some_iff.mp hy
    obtain ⟨h0, h1, h2, h3, _⟩ := hl l
    exact settingsFit_putLine h l ⟨h0, h1, h2, h3, within_eq_some hv⟩
  | rate l | cycleMode l | role l | autoRejoin l =>
    obtain ⟨v, _, rfl⟩ := Option.map_eq_some_iff.mp hy
    exact settingsFit_putLine h l (hl l)

theorem copiesFit_tryLine {s : State} (h : CopiesFit s) (l : LineId) : CopiesFit (s.tryLine l) := by
  obtain ⟨hs, ha, hp⟩ := h
  cases hset : s.applySet with
  | none => rw [State.tryLine_none l hset]; exact ⟨hs, ha, hp⟩
  | some p =>
    refine ⟨by simpa using hs, ?_, fun q hq => ?_⟩
    · rw [State.applied_tryLine l hset]
      split
      · exact settingsFit_putLine ha l ((settingsFit_iff _).mp (hp p hset) l)
      · exact ha
    · rw [State.applySet_tryLine l hset] at hq
      cases hq
      exact hp p hset

theorem copiesFit_tryBanks {s : State} (h : CopiesFit s) : CopiesFit s.tryBanks := by
  obtain ⟨hs, ha, hp⟩ := h
  cases hset : s.applySet with
  | none => rw [State.tryBanks_none hset]; exact ⟨hs, ha, hp⟩
  | some p =>
    refine ⟨by simpa using hs, ?_, fun q hq => ?_⟩
    · rw [State.applied_tryBanks hset]
      split
      · exact ha
      · exact ha
    · rw [State.applySet_tryBanks hset] at hq
      cases hq
      exact hp p hset

theorem copiesFit_finishSet {s : State} (h : CopiesFit s) : CopiesFit s.finishSet := by
  obtain ⟨hs, ha, hp⟩ := h
  cases hset : s.applySet with
  | none => rw [State.finishSet_none hset]; exact ⟨hs, ha, hp⟩
  | some p =>
    refine ⟨by simpa using hs, by simpa using ha, fun q hq => ?_⟩
    rw [State.applySet_finishSet hset] at hq
    split at hq
    · cases hq; exact hp p hset
    · cases hq

theorem copiesFit_notice {s : State} (h : CopiesFit s) (l : LineId) : CopiesFit (s.notice l) :=
  copiesFit_finishSet (copiesFit_tryBanks (copiesFit_tryLine h l))

theorem copiesFit_same {s t : State} (h : CopiesFit s) (ht : SameSettings s t) : CopiesFit t := by
  obtain ⟨hs, ha, hp⟩ := ht
  unfold CopiesFit
  rw [hs, ha, hp]
  exact h

theorem copiesFit_applyStaged {s : State} (h : CopiesFit s) : CopiesFit s.applyStaged := by
  refine copiesFit_finishSet (copiesFit_tryBanks (copiesFit_tryLine (copiesFit_tryLine ?_ .a) .b))
  exact ⟨h.1, h.2.1, fun q hq => by cases hq; exact h.1⟩

theorem copiesFit_keptBySettings : KeptBySettings CopiesFit where
  same := fun _ _ h ht => copiesFit_same h ht.settings
  reset := ⟨⟨by decide, by decide⟩, ⟨by decide, by decide⟩, fun _ hp => by cases hp⟩
  written := fun _ _ _ _ h hx => ⟨settingsFit_put h.1 hx, h.2⟩
  apply := fun _ h => copiesFit_applyStaged h
  attach := fun _ _ h ht _ => copiesFit_same h ht
  notice := fun _ _ l h ht _ => copiesFit_notice (copiesFit_same h ht) l
  notices := fun _ _ h ht => copiesFit_notice (copiesFit_notice (copiesFit_same h ht) .a) .b

/-! ### What waits, and why -/

/-- R186: a line portion that waits has a reason. -/
def LineReason (s : State) (l : LineId) : Prop :=
  ∀ p, s.applySet = some p → p.lineWaiting.get l = true →
    s.isDetached l = false ∧ p.values.line.get l ≠ s.applied.line.get l

/-- R188: a bank-map portion that waits has a reason. -/
def BankReason (s : State) : Prop :=
  ∀ p, s.applySet = some p → p.bankWaiting = true → p.values.bankMap ≠ s.applied.bankMap ∧ bothDetached s = false

theorem bothDetached_eq_false (s : State) :
    bothDetached s = false ↔ s.isDetached .a = false ∨ s.isDetached .b = false := by
  unfold bothDetached
  exact Bool.and_eq_false_iff

theorem setWaits_iff (s : State) :
    SetWaits s ↔ (∀ l, LineReason s l) ∧ BankReason s ∧
      ∀ p, s.applySet = some p → p.lineWaiting.a = true ∨ p.lineWaiting.b = true ∨ p.bankWaiting = true := by
  constructor
  · intro h
    refine ⟨fun l p => h.line p l, fun p hp hw => ?_, h.waits⟩
    obtain ⟨hm, hd⟩ := h.bank p hp hw
    rw [movesBank_eq] at hm
    exact ⟨of_decide_eq_true hm, (bothDetached_eq_false s).mpr hd⟩
  · rintro ⟨hl, hb, hw⟩
    refine ⟨hw, fun p l => hl l p, fun p hp hq => ?_⟩
    obtain ⟨hm, hd⟩ := hb p hp hq
    exact ⟨by rw [movesBank_eq]; exact decide_eq_true hm, (bothDetached_eq_false s).mp hd⟩

theorem setWaits_none {s : State} (h : s.applySet = none) : SetWaits s where
  waits := fun p hp => by rw [h] at hp; cases hp
  line := fun p l hp => by rw [h] at hp; cases hp
  bank := fun p hp => by rw [h] at hp; cases hp

section
variable {s : State} {l : LineId}

/-- An occasion leaves a line's portion waiting only with a reason. -/
theorem lineReason_tryLine : LineReason (s.tryLine l) l := by
  intro q hq hw
  cases hset : s.applySet with
  | none => rw [State.tryLine_none l hset, hset] at hq; cases hq
  | some p =>
    rw [State.applySet_tryLine l hset] at hq
    cases hq
    rw [PerLine.get_set_self] at hw
    simp only [State.lineStays, Bool.and_eq_true, Bool.not_eq_true', decide_eq_true_eq] at hw
    obtain ⟨⟨hw, hd⟩, hv⟩ := hw
    refine ⟨(State.isDetached_of_line (by simp)).trans hd, ?_⟩
    rw [State.applied_tryLine l hset, hd, Bool.and_false, if_neg Bool.false_ne_true]
    exact hv

theorem lineReason_tryLine_ne {m : LineId} (hm : m ≠ l) (h : LineReason s m) : LineReason (s.tryLine l) m := by
  intro q hq hw
  cases hset : s.applySet with
  | none => rw [State.tryLine_none l hset] at hq ⊢; exact h q hq hw
  | some p =>
    rw [State.applySet_tryLine l hset] at hq
    cases hq
    rw [PerLine.get_set_ne _ _ _ _ hm] at hw
    obtain ⟨hd, hv⟩ := h p hset hw
    refine ⟨(State.isDetached_of_line (by simp)).trans hd, ?_⟩
    rw [State.applied_tryLine l hset]
    split
    · rw [Settings.line_putLine, PerLine.get_set_ne _ _ _ _ hm]
      exact hv
    · exact hv

theorem lineReason_tryBanks (h : LineReason s l) : LineReason s.tryBanks l := by
  intro q hq hw
  cases hset : s.applySet with
  | none => rw [State.tryBanks_none hset] at hq ⊢; exact h q hq hw
  | some p =>
    rw [State.applySet_tryBanks hset] at hq
    cases hq
    obtain ⟨hd, hv⟩ := h p hset hw
    refine ⟨(State.isDetached_of_line (by simp)).trans hd, ?_⟩
    rw [State.applied_tryBanks hset]
    split <;> exact hv

theorem bankReason_tryBanks : BankReason s.tryBanks := by
  intro q hq hw
  cases hset : s.applySet with
  | none => rw [State.tryBanks_none hset, hset] at hq; cases hq
  | some p =>
    rw [State.applySet_tryBanks hset] at hq
    cases hq
    have hline : bothDetached s.tryBanks = bothDetached s := by simp [bothDetached, State.isDetached]
    simp only [State.banksStay, Bool.and_eq_true, Bool.not_eq_true', decide_eq_true_eq] at hw
    obtain ⟨⟨_, hm⟩, hd⟩ := hw
    refine ⟨?_, hline.trans hd⟩
    have hgo : s.banksGo p = false := by simp [State.banksGo, hd]
    rw [State.applied_tryBanks hset, hgo, if_neg Bool.false_ne_true]
    exact hm

/-- R185: the set ends once nothing waits. -/
theorem setWaits_finishSet (hl : ∀ l, LineReason s l) (hb : BankReason s) : SetWaits s.finishSet := by
  cases hset : s.applySet with
  | none =>
    rw [State.finishSet_none hset]
    exact (setWaits_iff s).mpr ⟨hl, hb, fun p hp => by rw [hset] at hp; cases hp⟩
  | some p =>
    rw [State.finishSet_some s p hset]
    split
    next hw =>
      refine (setWaits_iff s).mpr ⟨hl, hb, fun q hq => ?_⟩
      rw [hset] at hq
      cases hq
      simpa [or_assoc] using hw
    next => exact setWaits_none rfl

theorem lineReason_finishSet (h : LineReason s l) : LineReason s.finishSet l := by
  cases hset : s.applySet with
  | none => rw [State.finishSet_none hset]; exact h
  | some p =>
    rw [State.finishSet_some s p hset]
    split
    next => exact h
    next =>
      intro q hq
      cases hq

theorem lineReason_notice : LineReason (s.notice l) l :=
  lineReason_finishSet (lineReason_tryBanks lineReason_tryLine)

/-- R186: a notice asks only that the other line's portion waits with a reason. -/
theorem setWaits_notice (h : LineReason s l.other) : SetWaits (s.notice l) := by
  refine setWaits_finishSet (fun m => ?_) bankReason_tryBanks
  obtain rfl | rfl := LineId.eq_or_other l m
  · exact lineReason_tryBanks lineReason_tryLine
  · exact lineReason_tryBanks (lineReason_tryLine_ne (LineId.other_ne l) h)

theorem setWaits_applyStaged : SetWaits s.applyStaged := by
  refine setWaits_finishSet (fun m => lineReason_tryBanks ?_) bankReason_tryBanks
  cases m with
  | a => exact lineReason_tryLine_ne (by decide) lineReason_tryLine
  | b => exact lineReason_tryLine

end

theorem lineReason_same {s t : State} {l : LineId} (h : LineReason s l) (ht : SameSettings s t)
    (hd : t.isDetached l = true → s.isDetached l = true) : LineReason t l := by
  intro p hp hw
  rw [ht.2.2] at hp
  obtain ⟨h0, h1⟩ := h p hp hw
  refine ⟨Bool.eq_false_iff.mpr fun hx => ?_, by rw [ht.2.1]; exact h1⟩
  rw [hd hx] at h0
  cases h0

theorem setWaits_attach {s t : State} (h : SetWaits s) (ht : SameSettings s t)
    (hd : ∀ m, t.isDetached m = true → s.isDetached m = true) : SetWaits t := by
  obtain ⟨hl, hb, hw⟩ := (setWaits_iff s).mp h
  refine (setWaits_iff t).mpr ⟨fun l => lineReason_same (hl l) ht (hd l), fun p hp hq => ?_, fun p hp => ?_⟩
  · rw [ht.2.2] at hp
    obtain ⟨h0, h1⟩ := hb p hp hq
    refine ⟨by rw [ht.2.1]; exact h0, Bool.eq_false_iff.mpr fun hx => ?_⟩
    obtain ⟨ha, hb⟩ := Bool.and_eq_true_iff.mp hx
    have : bothDetached s = true := Bool.and_eq_true_iff.mpr ⟨hd _ ha, hd _ hb⟩
    rw [this] at h1
    cases h1
  · rw [ht.2.2] at hp
    exact hw p hp

theorem setWaits_keptBySettings : KeptBySettings SetWaits where
  same := fun _ _ h ht => setWaits_attach h ht.settings fun m hm => by rwa [ht.detached m] at hm
  reset := setWaits_none rfl
  written := fun _ _ _ _ h _ => ⟨h.waits, h.line, h.bank⟩
  apply := fun _ _ => setWaits_applyStaged
  attach := fun _ _ h ht hd => setWaits_attach h ht hd
  notice := fun s t l h ht hd =>
    setWaits_notice (lineReason_same (((setWaits_iff s).mp h).1 l.other) ht fun hx => by rwa [hd] at hx)
  notices := fun _ t _ _ => setWaits_notice (l := .b) (s := t.notice .a) lineReason_notice

/-- Settles O60, by what a portion does at an occasion. -/
theorem settingsStayFit : Obligations.SettingsStayFit :=
  ⟨fun _ _ h ht => copiesFit_keptBySettings.keptByEvents.step h ht,
    fun _ _ h ht => setWaits_keptBySettings.keptByEvents.step h ht⟩

end Sys2Proof.Machine

/-! PROOFS. What each event makes of its line: the controller, the engine, and the other line (R110, R114, R118 to R121,
R128 to R130, R136). -/

namespace Sys2Proof.Machine

open Sys2Proof.Safety

/-- The controller of a line taken to DETACHED (R118, R121, R137). -/
def LineCtl.stop (c : LineCtl) : LineCtl :=
  { c with state := .detached, recovery := 0, rejoin := false, attempt := none }

section
variable (s : State) (l : LineId)

@[simp] theorem State.line_emptyBuffer : (s.emptyBuffer l).line.get l = { s.line.get l with attempt := none } := by
  simp [State.emptyBuffer]

@[simp] theorem State.line_noteError (kind : ErrorKind) :
    (s.noteError l kind).line.get l = { s.line.get l with lastError := some kind } := by
  simp [State.noteError]

@[simp] theorem State.participates_emptyBuffer (m : LineId) : (s.emptyBuffer l).participates m = s.participates m := by
  obtain rfl | rfl := LineId.eq_or_other l m
  · exact State.participates_of_line (by simp)
  · exact State.participates_of_line (by simp)

@[simp] theorem State.participates_report (a : Attempt) (x : Ending) (m : LineId) :
    (s.report l a x).participates m = s.participates m :=
  State.participates_of_line (by simp)

theorem State.line_copyFrame (a : Attempt) :
    (s.copyFrame l a).line.get l = { s.line.get l with attempt := some a } := by
  unfold State.copyFrame
  split <;> simp

theorem State.line_stopLine (x : Ending) : (s.stopLine l x).line.get l = (s.line.get l).stop := by
  unfold State.stopLine
  dsimp only
  split <;> simp [LineCtl.stop]

theorem State.engine_stopLine (x : Ending) : (s.stopLine l x).engine.get l = .stopped := by
  unfold State.stopLine
  dsimp only
  split <;> simp

theorem State.line_detachLine (h : s.isDetached l = false) : (s.detachLine l).line.get l = (s.line.get l).stop := by
  unfold State.detachLine
  rw [h, if_neg Bool.false_ne_true, State.line_notice, State.line_lineStateReport, State.line_stopLine]

theorem State.engine_detachLine (h : s.isDetached l = false) : (s.detachLine l).engine.get l = .stopped := by
  unfold State.detachLine
  rw [h, if_neg Bool.false_ne_true, State.engine_notice, State.engine_lineStateReport, State.engine_stopLine]

/-- A line already DETACHED only gives the notice. -/
theorem State.detachLine_detached (h : s.isDetached l = true) : s.detachLine l = s.notice l := by
  unfold State.detachLine
  rw [if_pos h]

theorem State.line_receiveErrorOn (kind : ErrorKind) (h : s.participates l = true) :
    (s.receiveErrorOn l kind).line.get l =
      { counted (s.line.get l) (s.line.get l).transmitCount
          (min ((s.line.get l).receiveCount + 1) Config.receiveCeiling) with lastError := some kind } := by
  unfold State.receiveErrorOn
  dsimp only
  rw [State.line_withCounts _ _ _ _ ((participates_noteError (s.withEngine l _) l kind l).trans h)]
  simp [counted]

theorem State.engine_receiveErrorOn (kind : ErrorKind) :
    (s.receiveErrorOn l kind).engine.get l = errorFlag (s.line.get l).state (if kind = .check then 1 else 0) := by
  simp [State.receiveErrorOn]

theorem State.line_transmitSucceeds (a : Attempt) (h : s.participates l = true) :
    (s.transmitSucceeds l a).line.get l =
      { counted (s.line.get l) ((s.line.get l).transmitCount - 1) (s.line.get l).receiveCount with attempt := none } := by
  unfold State.transmitSucceeds State.countTransmission
  rw [State.line_judgePins, State.line_report, State.line_emptyBuffer,
    State.line_withCounts (s.withEngine l _) l _ _ h]
  rfl

theorem State.engine_transmitSucceeds (a : Attempt) : (s.transmitSucceeds l a).engine.get l = .intermission 0 := by
  simp [State.transmitSucceeds]

theorem State.line_transmitSucceeds_other (a : Attempt) :
    (s.transmitSucceeds l a).line.get l.other = s.line.get l.other := by
  simp [State.transmitSucceeds]

theorem State.engine_transmitSucceeds_other (a : Attempt) :
    (s.transmitSucceeds l a).engine.get l.other = s.engine.get l.other := by
  simp [State.transmitSucceeds]

theorem State.engine_transmitErrorOn (kind : ErrorKind) (a : Attempt) :
    (s.transmitErrorOn l kind a).engine.get l = errorFlag (s.line.get l).state 0 := by
  unfold State.transmitErrorOn
  dsimp only
  split <;> simp

/-- R123, R128: the error brings the transmit count to the OFF level. -/
def LineCtl.failsOff (c : LineCtl) (kind : ErrorKind) : Prop :=
  senderCost c.state kind ≠ 0 ∧ Config.offLevel ≤ c.transmitCount + senderCost c.state kind

/-- The state in which an error as sender has been noted (R113, R126). -/
def State.errorNoted (kind : ErrorKind) : State :=
  (s.withEngine l (errorFlag (s.line.get l).state 0)).noteError l kind

@[simp] theorem State.participates_errorNoted (kind : ErrorKind) (m : LineId) :
    (s.errorNoted l kind).participates m = s.participates m :=
  participates_noteError _ l kind m

theorem State.transmitErrorOn_off (kind : ErrorKind) (a : Attempt) (h : (s.line.get l).failsOff kind) :
    s.transmitErrorOn l kind a = (s.errorNoted l kind).enterOff l a := by
  unfold State.transmitErrorOn
  exact if_pos h

theorem State.transmitErrorOn_counts (kind : ErrorKind) (a : Attempt) (h : ¬ (s.line.get l).failsOff kind) :
    s.transmitErrorOn l kind a =
      (((s.errorNoted l kind).withCounts l
        ((s.line.get l).transmitCount + senderCost (s.line.get l).state kind) (s.line.get l).receiveCount).emptyBuffer
          l).report l a .error := by
  unfold State.transmitErrorOn
  exact if_neg h

theorem State.line_transmitErrorOn_counts (kind : ErrorKind) (a : Attempt) (hp : s.participates l = true)
    (h : ¬ (s.line.get l).failsOff kind) :
    (s.transmitErrorOn l kind a).line.get l =
      { counted (s.line.get l) ((s.line.get l).transmitCount + senderCost (s.line.get l).state kind)
          (s.line.get l).receiveCount with lastError := some kind, attempt := none } := by
  rw [State.transmitErrorOn_counts s l kind a h, State.line_report, State.line_emptyBuffer,
    State.line_withCounts (s.errorNoted l kind) l _ _ ((s.participates_errorNoted l kind l).trans hp)]
  simp [State.errorNoted, counted]

theorem State.line_transmitErrorOn_off (kind : ErrorKind) (a : Attempt) (h : (s.line.get l).failsOff kind) :
    (s.transmitErrorOn l kind a).line.get l =
      { s.line.get l with state := .off, transmitCount := 0, receiveCount := 0, recovery := 0, rejoin := false,
                          lastError := some kind, attempt := none } := by
  rw [State.transmitErrorOn_off s l kind a h, line_enterOff]
  simp [State.errorNoted]

theorem State.engine_completeJoin : (s.completeJoin l).engine.get l = .idle 0 := by
  simp [State.completeJoin]

/-- R130: the recovery of a line ends in ACTIVE. -/
def State.rejoins : Bool := (s.line.get l).rejoin || (s.applied.line.get l).autoRejoin

theorem State.line_endRecovery :
    (s.endRecovery l).line.get l =
      { s.line.get l with state := if s.rejoins l then .active else .detached, transmitCount := 0, receiveCount := 0,
                          recovery := 0, rejoin := false } := by
  unfold State.endRecovery State.rejoins
  dsimp only
  split <;> simp

theorem State.engine_endRecovery :
    (s.endRecovery l).engine.get l = if s.rejoins l then .idle 0 else .stopped := by
  unfold State.endRecovery State.rejoins
  dsimp only
  split <;> simp

theorem State.line_recoveryStep_counts (h : (s.line.get l).recovery + 1 < Config.recoveryLength) :
    s.recoveryStep l =
      (s.withLine l { s.line.get l with recovery := (s.line.get l).recovery + 1 }).withEngine l (.recovering 0) := by
  unfold State.recoveryStep
  exact if_neg (Nat.not_le.mpr h)

theorem State.recoveryStep_ends (h : Config.recoveryLength ≤ (s.line.get l).recovery + 1) :
    s.recoveryStep l = s.endRecovery l := by
  unfold State.recoveryStep
  exact if_pos h

end

/-! ### CLEAR -/

section
variable (s : State)

/-- CLEAR's work up to the first line's stop (R19, R168). -/
def State.emptied : State := (s.withFlags .clear).emptyAll

/-- A line stopped by CLEAR, when it is not DETACHED. -/
def State.clearLine (x : State) (l : LineId) : State := if s.isDetached l then x else x.stopLine l .abortClear

/-- The line state CLEAR reports, when the line was not DETACHED. -/
def State.clearReport (x : State) (l : LineId) : State :=
  if s.isDetached l then x else x.lineStateReport l (s.line.get l).state

/-- CLEAR up to its notices. -/
def State.cleared : State :=
  s.clearReport (s.clearReport (s.clearLine (s.clearLine s.emptied .a) .b) .a) .b

theorem State.clearPart_eq : s.clearPart = (s.cleared.notice .a).notice .b := rfl

/-- The controller after CLEAR. -/
def State.clearedLine (l : LineId) : LineCtl := if s.isDetached l then s.line.get l else (s.line.get l).stop

def State.clearedEngine (l : LineId) : Phase := if s.isDetached l then s.engine.get l else .stopped

theorem State.line_clearLine (x : State) (l : LineId) :
    (s.clearLine x l).line.get l = if s.isDetached l then x.line.get l else (x.line.get l).stop := by
  unfold State.clearLine
  split
  · rfl
  · exact x.line_stopLine l .abortClear

theorem State.line_clearLine_other (x : State) (l : LineId) :
    (s.clearLine x l).line.get l.other = x.line.get l.other := by
  unfold State.clearLine
  split <;> simp

theorem State.engine_clearLine (x : State) (l : LineId) :
    (s.clearLine x l).engine.get l = if s.isDetached l then x.engine.get l else .stopped := by
  unfold State.clearLine
  split
  · rfl
  · exact x.engine_stopLine l .abortClear

theorem State.engine_clearLine_other (x : State) (l : LineId) :
    (s.clearLine x l).engine.get l.other = x.engine.get l.other := by
  unfold State.clearLine
  split <;> simp

@[simp] theorem State.line_clearReport (x : State) (l : LineId) : (s.clearReport x l).line = x.line := by
  unfold State.clearReport
  split <;> simp

@[simp] theorem State.engine_clearReport (x : State) (l : LineId) : (s.clearReport x l).engine = x.engine := by
  unfold State.clearReport
  split <;> simp

theorem State.line_clearPart (l : LineId) : s.clearPart.line.get l = s.clearedLine l := by
  rw [State.clearPart_eq, State.line_notice, State.line_notice]
  unfold State.cleared State.clearedLine
  rw [State.line_clearReport, State.line_clearReport]
  cases l with
  | a => exact (s.line_clearLine_other _ .b).trans (s.line_clearLine _ .a)
  | b =>
    rw [State.line_clearLine]
    have hother : (s.clearLine s.emptied .a).line.get .b = s.line.get .b := s.line_clearLine_other s.emptied .a
    rw [hother]

theorem State.engine_clearPart (l : LineId) : s.clearPart.engine.get l = s.clearedEngine l := by
  rw [State.clearPart_eq, State.engine_notice, State.engine_notice]
  unfold State.cleared State.clearedEngine
  rw [State.engine_clearReport, State.engine_clearReport]
  cases l with
  | a => exact (s.engine_clearLine_other _ .b).trans (s.engine_clearLine _ .a)
  | b =>
    rw [State.engine_clearLine]
    have hother : (s.clearLine s.emptied .a).engine.get .b = s.engine.get .b := s.engine_clearLine_other s.emptied .a
    rw [hother]

end

end Sys2Proof.Machine

/-! PROOFS. Counts, line states and engine phases agree at every step (R94, R116, R117, R123, R125, R128 to R131). -/

namespace Sys2Proof.Machine

open Sys2Proof.Safety

/-- R94, R116, R117, R132: controller and engine of one line agree. -/
structure LineFits (c : LineCtl) (x : Phase) : Prop where
  counts : CountsAgree c
  allowed : phaseAllowed c.state x = true
  holds : phaseHolds x c.attempt = true
  inRange : phaseInRange x = true
  partakes : c.attempt.isSome = true → c.state.participates = true

/-- Both lines agree. -/
def LinesFit (s : State) : Prop := ∀ l, LineFits (s.line.get l) (s.engine.get l)

theorem linesFit_iff (s : State) : LinesFit s ↔ ∀ l, CountsAgree (s.line.get l) ∧ EngineAgrees s l := by
  constructor
  · intro h l
    obtain ⟨hc, ha, hh, hr, hp⟩ := h l
    exact ⟨hc, ha, hh, hr, hp⟩
  · intro h l
    obtain ⟨hc, ha, hh, hr, hp⟩ := h l
    exact ⟨hc, ha, hh, hr, hp⟩

/-- An event at one line leaves the other. -/
theorem LinesFit.of_line {s t : State} (h : LinesFit s) (l : LineId) (hl : t.line.get l.other = s.line.get l.other)
    (he : t.engine.get l.other = s.engine.get l.other) (hf : LineFits (t.line.get l) (t.engine.get l)) :
    LinesFit t := by
  intro m
  obtain rfl | rfl := LineId.eq_or_other l m
  · exact hf
  · rw [hl, he]
    exact h l.other

theorem LinesFit.of_same {s t : State} (h : LinesFit s) (hl : t.line = s.line) (he : t.engine = s.engine) :
    LinesFit t := by
  intro l
  rw [hl, he]
  exact h l

/-! ### One line -/

theorem LineState.participates_iff (x : LineState) : x.participates = true ↔ x = .active ∨ x = .guarded := by
  cases x <;> decide

theorem phaseAllowed_participates {x : LineState} (h : x = .active ∨ x = .guarded) (p : Phase) (hp : p ≠ .stopped) :
    phaseAllowed x p = true := by
  obtain rfl | rfl := h <;> cases p <;> simp_all [phaseAllowed]

theorem stateFor_participates (t r : Nat) : stateFor t r = .active ∨ stateFor t r = .guarded := by
  unfold stateFor
  split
  · exact .inr rfl
  · exact .inl rfl

/-- R123, R125: counts in their ranges, settled. -/
theorem countsAgree_counted {c : LineCtl} {t r : Nat} (h : CountsAgree c) (hp : c.state = .active ∨ c.state = .guarded)
    (ht : t < 200) (hr : r ≤ 127) : CountsAgree (counted c t r) := by
  obtain ⟨_, _, _, _, _, hq⟩ := h
  have hoff : c.state ≠ .off := by obtain h | h := hp <;> simp [h]
  obtain ⟨hq1, hq2⟩ := hq hoff
  by_cases hc : 100 ≤ t ∨ 100 ≤ r
  · simp only [CountsAgree, counted, stateFor, if_pos hc]
    simp [ht, hr, hc, hq1, hq2, Config.offLevel, Config.receiveCeiling, Config.guardedLevel]
  · simp only [CountsAgree, counted, stateFor, if_neg hc]
    simp only [not_or, Nat.not_le] at hc
    simp [ht, hr, hc, hq1, hq2, Config.offLevel, Config.receiveCeiling, Config.guardedLevel]

section
variable {c : LineCtl} {x : Phase}

theorem LineFits.participates (h : LineFits c x) (ha : c.attempt ≠ none) : c.state = .active ∨ c.state = .guarded :=
  (LineState.participates_iff _).mp (h.partakes (Option.isSome_iff_ne_none.mpr ha))

/-- A line that takes part, with an empty buffer and counts that agree, is in any phase but STOPPED and sending. -/
theorem lineFits_empty {d : LineCtl} {y : Phase} (hd : CountsAgree d) (hp : d.state = .active ∨ d.state = .guarded)
    (ha : d.attempt = none) (hy : y ≠ .stopped) (hs : ∀ bits, y ≠ .sending bits) (hr : phaseInRange y = true) :
    LineFits d y where
  counts := hd
  allowed := phaseAllowed_participates hp y hy
  holds := by
    rw [ha]
    cases y with
    | sending bits => exact absurd rfl (hs bits)
    | _ => rfl
  inRange := hr
  partakes := fun h => by rw [ha] at h; cases h

/-- The buffer and LAST_ERROR are no part of the counts. -/
theorem countsAgree_congr {d : LineCtl} (h : CountsAgree c) (ht : d.transmitCount = c.transmitCount)
    (hr : d.receiveCount = c.receiveCount) (hs : d.state = c.state) (hc : d.recovery = c.recovery)
    (hj : d.rejoin = c.rejoin) : CountsAgree d := by
  simp only [CountsAgree, ht, hr, hs, hc, hj]
  exact h

theorem countsAgree_stop (h : CountsAgree c) : CountsAgree c.stop := by
  obtain ⟨ht, hr, _⟩ := h
  exact ⟨ht, hr, nofun, nofun, nofun, fun _ => ⟨rfl, rfl⟩⟩

/-- R128, R130: counts and recovery at 0 agree with every line state but GUARDED. -/
theorem countsAgree_zero (ht : c.transmitCount = 0) (hr : c.receiveCount = 0) (hc : c.recovery = 0)
    (hj : c.rejoin = false) (hs : c.state ≠ .guarded) : CountsAgree c := by
  simp [CountsAgree, ht, hr, hc, hj, hs]

theorem lineFits_stop (h : CountsAgree c) : LineFits c.stop .stopped :=
  ⟨countsAgree_stop h, rfl, rfl, rfl, nofun⟩

/-! ### Line bits -/

/-- R101: counting toward an idle sequence stays in its phase, below 12. -/
theorem countIdle_phase (l : LineId) (n : Nat) (f : Nat → Phase) :
    ∃ k, (countIdle l n f).phase = f k ∧ (n < 12 → k < 12) := by
  unfold countIdle
  split
  · exact ⟨0, rfl, fun _ => by decide⟩
  next h =>
    have hne : n + 1 ≠ 12 := h
    exact ⟨n + 1, rfl, fun hn => by omega⟩

theorem phaseAllowed_recovering (y : LineState) (m n : Nat) :
    phaseAllowed y (.recovering m) = phaseAllowed y (.recovering n) := by
  cases y <;> rfl

theorem phaseAllowed_flagging {y : LineState} {active : Bool} {wait sent : Nat}
    (h : phaseAllowed y (.flagging active wait sent) = true) :
    (∀ w k, phaseAllowed y (.flagging active w k) = true) ∧ ∀ k, phaseAllowed y (.recovering k) = true := by
  cases y <;> simp_all [phaseAllowed]

/-- The phases of a frame, and IDLE, are those of a line that takes part. -/
theorem participates_of_phaseAllowed {y : LineState} (h : phaseAllowed y x = true) (hs : x ≠ .stopped)
    (hr : ∀ n, x ≠ .recovering n) (hf : ∀ a w k, x ≠ .flagging a w k) : y = .active ∨ y = .guarded := by
  cases y <;> cases x <;> simp_all [phaseAllowed]

theorem phaseInRange_flagging {active : Bool} {wait sent : Nat} :
    phaseInRange (.flagging active wait sent) = true ↔ wait ≤ 1 ∧ sent < 8 := by
  simp [phaseInRange]

/-- R94: what one bit makes of an engine still agrees with its controller. -/
theorem lineFits_bit (h : LineFits c x) (l : LineId) (b : LineBit) : LineFits c (bitAt l x c.attempt b).phase := by
  obtain ⟨hc, ha, hh, hr, hb⟩ := h
  have fits : ∀ y, phaseAllowed c.state y = true → phaseHolds y c.attempt = true → phaseInRange y = true →
      LineFits c y := fun y hay hhy hry => ⟨hc, hay, hhy, hry, hb⟩
  have within : (∀ n, x ≠ .recovering n) → (∀ a w k, x ≠ .flagging a w k) → x ≠ .stopped → ∀ y, y ≠ .stopped →
      phaseAllowed c.state y = true := fun h1 h2 h3 y hy =>
    phaseAllowed_participates (participates_of_phaseAllowed ha h3 h1 h2) y hy
  cases x with
  | stopped => exact ⟨hc, ha, hh, hr, hb⟩
  | recovering n =>
    obtain ⟨k, hk, hlt⟩ := countIdle_phase l n .recovering
    simp only [bitAt]
    split
    · rw [hk]
      exact fits _ (phaseAllowed_recovering _ k n ▸ ha) hh (decide_eq_true (hlt (of_decide_eq_true hr)))
    · exact fits _ (phaseAllowed_recovering _ 0 n ▸ ha) hh rfl
  | idle n =>
    have allowed := within nofun nofun nofun
    obtain ⟨k, hk, hlt⟩ := countIdle_phase l n .idle
    simp only [bitAt, idleBit]
    split
    next a hatt =>
      split
      · exact fits _ (allowed _ nofun) rfl hr
      · split
        · exact fits _ (allowed _ nofun) rfl hr
        · exact fits _ (allowed _ nofun) (by rw [hatt]; rfl) rfl
    next hatt =>
      split
      · rw [hk]
        exact fits _ (allowed _ nofun) rfl (decide_eq_true (hlt (of_decide_eq_true hr)))
      · exact fits _ (allowed _ nofun) (by rw [hatt]; rfl) rfl
  | sending bits =>
    have allowed := within nofun nofun nofun
    simp only [bitAt]
    split
    · exact fits _ (allowed _ nofun) hh rfl
    · exact fits _ (allowed _ nofun) hh rfl
  | receiving bits =>
    have allowed := within nofun nofun nofun
    cases bits <;> exact fits _ (allowed _ nofun) hh rfl
  | intermission n =>
    have allowed := within nofun nofun nofun
    have hn : n < 4 := of_decide_eq_true hr
    simp only [bitAt]
    split
    · split
      · exact fits _ (allowed _ nofun) rfl rfl
      next hne =>
        have hne : n + 1 ≠ 4 := hne
        exact fits _ (allowed _ nofun) hh (decide_eq_true (show n + 1 < 4 by omega))
    · exact fits _ (allowed _ nofun) hh rfl
  | flagging active wait sent =>
    obtain ⟨flagging, recovering⟩ := phaseAllowed_flagging ha
    obtain ⟨hw, hs⟩ := phaseInRange_flagging.mp hr
    simp only [bitAt, flagBit]
    split
    · exact fits _ (flagging _ _) hh (phaseInRange_flagging.mpr ⟨by omega, hs⟩)
    · split
      · exact fits _ (recovering 0) hh rfl
      next hne =>
        have hne : sent + 1 ≠ 8 := hne
        exact fits _ (flagging _ _) hh (phaseInRange_flagging.mpr ⟨by omega, by omega⟩)

end

/-! ### Events -/

section
variable {s : State} {l : LineId}

theorem LinesFit.participates (h : LinesFit s) (ha : (s.line.get l).attempt ≠ none) : s.participates l = true :=
  (h l).partakes (Option.isSome_iff_ne_none.mpr ha)

theorem errorFlag_ne (x : LineState) (w : Nat) : errorFlag x w ≠ .stopped ∧ ∀ bits, errorFlag x w ≠ .sending bits :=
  ⟨nofun, nofun⟩

theorem linesFit_receiveErrorOn (h : LinesFit s) (kind : ErrorKind) (hc : s.canReceive l = true) :
    LinesFit (s.receiveErrorOn l kind) := by
  obtain ⟨hp, ha, _⟩ := (canReceive_iff s l).mp hc
  have hcounts : CountsAgree (counted (s.line.get l) (s.line.get l).transmitCount
      (min ((s.line.get l).receiveCount + 1) Config.receiveCeiling)) :=
    countsAgree_counted (h l).counts ((participates_iff s l).mp hp) (h l).counts.1 (Nat.min_le_right _ _)
  refine h.of_line l (by simp) (by simp) ?_
  rw [State.line_receiveErrorOn s l kind hp, State.engine_receiveErrorOn]
  refine lineFits_empty (countsAgree_congr hcounts rfl rfl rfl rfl rfl) (stateFor_participates _ _) ha nofun nofun ?_
  split <;> exact phaseInRange_flagging.mpr ⟨by decide, by decide⟩

/-- R124: a reception is counted on the line's own engine. -/
theorem lineFits_counted {c : LineCtl} {x : Phase} {t r : Nat} (h : LineFits c x)
    (hp : c.state = .active ∨ c.state = .guarded) (hx : x ≠ .stopped) (ht : t < 200) (hr : r ≤ 127) :
    LineFits (counted c t r) x where
  counts := countsAgree_counted h.counts hp ht hr
  allowed := phaseAllowed_participates (stateFor_participates _ _) x hx
  holds := h.holds
  inRange := h.inRange
  partakes := fun _ => (LineState.participates_iff _).mpr (stateFor_participates _ _)

/-- A good frame ends in INTERMISSION. -/
theorem linesFit_frame (h : LinesFit s) (w : WireFrame) (hc : s.canReceive l = true) :
    LinesFit ((s.withEngine l (.intermission 0)).takeFrame l w) := by
  obtain ⟨hp, ha, _⟩ := (canReceive_iff s l).mp hc
  obtain ⟨ht, hr, _⟩ := (h l).counts
  refine h.of_line l (by simp) (by simp) ?_
  rw [State.line_takeFrame (s.withEngine l _) l w hp]
  simp only [State.line_withEngine, State.engine_takeFrame, State.engine_withEngine, PerLine.get_set_self]
  exact lineFits_empty (countsAgree_counted (h l).counts ((participates_iff s l).mp hp) ht
    (Nat.le_trans (Nat.sub_le _ 1) hr)) (stateFor_participates _ _) ha nofun nofun rfl

theorem linesFit_query (h : LinesFit s) (w : WireFrame) (hq : s.queriedInFlight l w = true) :
    LinesFit (s.takeFrame l w) := by
  obtain ⟨a, ha⟩ := Option.ne_none_iff_exists'.mp ((queriedInFlight_iff s l w).mp hq).1
  obtain ⟨hp, _, hx⟩ := (sendingAttempt_iff s l a).mp ha
  obtain ⟨ht, hr, _⟩ := (h l).counts
  refine h.of_line l (by simp) (by simp) ?_
  rw [State.line_takeFrame s l w hp, State.engine_takeFrame]
  refine lineFits_counted (h l) ((participates_iff s l).mp hp) ?_ ht (Nat.le_trans (Nat.sub_le _ 1) hr)
  obtain ⟨_, hx⟩ | ⟨_, hx⟩ := hx <;> rw [hx] <;> exact nofun

theorem linesFit_copyFrame (h : LinesFit s) (a : Attempt) (hc : s.canSelect l = true) : LinesFit (s.copyFrame l a) := by
  obtain ⟨hp, _, n, hx⟩ := (canSelect_iff s l).mp hc
  obtain ⟨hcounts, hallowed, _, hrange, _⟩ := h l
  refine h.of_line l (by simp) (by simp) ?_
  rw [State.line_copyFrame, State.engine_copyFrame]
  refine ⟨countsAgree_congr hcounts rfl rfl rfl rfl rfl, hallowed, ?_, hrange, fun _ => hp⟩
  rw [hx]
  rfl

theorem linesFit_transmitSucceeds (h : LinesFit s) (a : Attempt) (hp : s.participates l = true) :
    LinesFit (s.transmitSucceeds l a) := by
  obtain ⟨ht, hr, _⟩ := (h l).counts
  refine h.of_line l (s.line_transmitSucceeds_other l a) (s.engine_transmitSucceeds_other l a) ?_
  rw [State.line_transmitSucceeds s l a hp, State.engine_transmitSucceeds]
  exact lineFits_empty (countsAgree_congr (countsAgree_counted (h l).counts ((participates_iff s l).mp hp)
    (Nat.lt_of_le_of_lt (Nat.sub_le _ 1) ht) hr) rfl rfl rfl rfl rfl) (stateFor_participates _ _) rfl nofun nofun rfl

theorem linesFit_loss (h : LinesFit s) (a : Attempt) (bits : Option (List Bool)) (hp : s.participates l = true) :
    LinesFit (((s.withEngine l (.receiving bits)).emptyBuffer l).report l a .loss).judgePins := by
  refine h.of_line l (by simp) (by simp) ?_
  simp only [State.line_judgePins, State.line_report, State.line_emptyBuffer, State.line_withEngine,
    State.engine_judgePins, State.engine_report, State.engine_emptyBuffer, State.engine_withEngine,
    PerLine.get_set_self]
  exact lineFits_empty (countsAgree_congr (h l).counts rfl rfl rfl rfl rfl) ((participates_iff s l).mp hp) rfl nofun
    nofun rfl

/-- R128: only a GUARDED line is brought to the OFF level. -/
theorem countsAgree_failsOff {c : LineCtl} (h : CountsAgree c) {kind : ErrorKind} (hf : c.failsOff kind) :
    c.state ≠ .active := by
  intro ha
  obtain ⟨_, _, hactive, _⟩ := h
  have hlow : c.transmitCount < 100 := (hactive ha).1
  have hcost : senderCost c.state kind ≤ 6 := by
    unfold senderCost
    split <;> decide
  have hhigh : 200 ≤ c.transmitCount + senderCost c.state kind := hf.2
  omega

theorem transmitCount_of_not_failsOff {c : LineCtl} (h : CountsAgree c) {kind : ErrorKind} (hf : ¬ c.failsOff kind) :
    c.transmitCount + senderCost c.state kind < 200 := by
  have ht : c.transmitCount < 200 := h.1
  by_cases hcost : senderCost c.state kind = 0
  · rw [hcost]
    exact ht
  · exact Nat.lt_of_not_le fun hle => hf ⟨hcost, hle⟩

theorem linesFit_transmitErrorOn (h : LinesFit s) (kind : ErrorKind) (a : Attempt) (hp : s.participates l = true) :
    LinesFit (s.transmitErrorOn l kind a) := by
  have hc := (h l).counts
  refine h.of_line l (by simp) (by simp) ?_
  rw [State.engine_transmitErrorOn]
  by_cases hf : (s.line.get l).failsOff kind
  · rw [State.line_transmitErrorOn_off s l kind a hf]
    have hpassive : ((s.line.get l).state == .active) = false := beq_eq_false_iff_ne.mpr (countsAgree_failsOff hc hf)
    refine ⟨countsAgree_zero rfl rfl rfl rfl nofun, ?_, rfl, rfl, nofun⟩
    simp [errorFlag, hpassive, phaseAllowed]
  · rw [State.line_transmitErrorOn_counts s l kind a hp hf]
    exact lineFits_empty (countsAgree_congr (countsAgree_counted hc ((participates_iff s l).mp hp)
      (transmitCount_of_not_failsOff hc hf) hc.2.1) rfl rfl rfl rfl rfl) (stateFor_participates _ _) rfl nofun nofun rfl

theorem linesFit_completeJoin (h : LinesFit s) (hl : (s.line.get l).state = .joining) : LinesFit (s.completeJoin l) := by
  obtain ⟨⟨ht, hr, _, _, _, hq⟩, hallowed, hholds, _, _⟩ := h l
  obtain ⟨hq1, hq2⟩ := hq (by simp [hl])
  have hjoined := (s.line.get l).joined_participates
  refine h.of_line l (by simp) (by simp) ?_
  rw [line_completeJoin, State.engine_completeJoin]
  refine ⟨⟨ht, hr, fun ha => ?active, fun hg => ?guarded, fun ho => ?off, fun _ => ⟨hq1, hq2⟩⟩,
    phaseAllowed_participates hjoined _ nofun, rfl, rfl, fun _ => (LineState.participates_iff _).mpr hjoined⟩
  case active =>
    by_contra hlow
    have hjoin : (s.line.get l).joined = .guarded := if_neg hlow
    exact absurd (hjoin.symm.trans ha) (by decide)
  case guarded =>
    by_contra hlow
    have hjoin : (s.line.get l).joined = .active :=
      if_pos ⟨Nat.lt_of_not_le fun hle => hlow (.inl hle), Nat.lt_of_not_le fun hle => hlow (.inr hle)⟩
    exact absurd (hjoin.symm.trans hg) (by decide)
  case off =>
    obtain hj | hj := hjoined <;> exact absurd (hj.symm.trans ho) (by decide)

/-- R128: an OFF line has nothing in its buffer. -/
theorem LineFits.attempt_none {c : LineCtl} {x : Phase} (h : LineFits c x) (hp : c.state.participates = false) :
    c.attempt = none := by
  by_contra hne
  have := h.partakes (Option.isSome_iff_ne_none.mpr hne)
  rw [hp] at this
  cases this

theorem linesFit_endRecovery (h : LinesFit s) (hl : (s.line.get l).state = .off) : LinesFit (s.endRecovery l) := by
  have hnone := (h l).attempt_none (by rw [hl]; rfl)
  refine h.of_line l (by simp) (by simp) ?_
  rw [State.line_endRecovery, State.engine_endRecovery]
  cases s.rejoins l
  · exact ⟨countsAgree_zero rfl rfl rfl rfl nofun, rfl, by simp [hnone, phaseHolds], rfl, by simp [hnone]⟩
  · exact ⟨countsAgree_zero rfl rfl rfl rfl nofun, rfl, rfl, rfl, fun _ => rfl⟩

theorem linesFit_idle (h : LinesFit s) (hp : s.participates l = true) : LinesFit (s.withEngine l (.idle 0)) := by
  refine h.of_line l rfl (by simp) ?_
  rw [State.engine_withEngine, PerLine.get_set_self]
  exact ⟨(h l).counts, phaseAllowed_participates ((participates_iff s l).mp hp) _ nofun, rfl, rfl, (h l).partakes⟩

theorem linesFit_recoveryStep (h : LinesFit s) (hl : (s.line.get l).state = .off) : LinesFit (s.recoveryStep l) := by
  by_cases hend : Config.recoveryLength ≤ (s.line.get l).recovery + 1
  · rw [State.recoveryStep_ends s l hend]
    exact linesFit_endRecovery h hl
  · rw [State.line_recoveryStep_counts s l (Nat.lt_of_not_le hend)]
    obtain ⟨ht, hr, _, _, hoff, _⟩ := (h l).counts
    obtain ⟨h1, h2, _⟩ := hoff hl
    have hnone := (h l).attempt_none (by rw [hl]; rfl)
    refine h.of_line l (by simp) (by simp) ?_
    simp only [State.line_withEngine, State.line_withLine, State.engine_withEngine, PerLine.get_set_self]
    refine ⟨⟨ht, hr, ?_, ?_, fun _ => ⟨h1, h2, Nat.lt_of_not_le hend⟩, ?_⟩, ?_, ?_, rfl, ?_⟩ <;>
      simp [hl, hnone, phaseAllowed, phaseHolds]

theorem linesFit_idleSequenceOn (h : LinesFit s) : LinesFit (s.idleSequenceOn l) := by
  unfold State.idleSequenceOn
  split
  next => exact h
  next hl => exact linesFit_completeJoin h hl
  next hl => exact linesFit_idle h ((participates_iff s l).mpr (.inl hl))
  next hl => exact linesFit_idle h ((participates_iff s l).mpr (.inr hl))
  next hl => exact linesFit_recoveryStep h hl

theorem linesFit_detachLine (h : LinesFit s) : LinesFit (s.detachLine l) := by
  cases hd : s.isDetached l with
  | true =>
    rw [State.detachLine_detached s l hd]
    exact h.of_same (by simp) (by simp)
  | false =>
    refine h.of_line l (by simp) (by simp) ?_
    rw [State.line_detachLine s l hd, State.engine_detachLine s l hd]
    exact lineFits_stop (h l).counts

theorem linesFit_clearPart (h : LinesFit s) : LinesFit s.clearPart := by
  intro l
  rw [State.line_clearPart, State.engine_clearPart]
  unfold State.clearedLine State.clearedEngine
  split
  · exact h l
  · exact lineFits_stop (h l).counts

theorem linesFit_startJoin (h : LinesFit s) (hl : (s.line.get l).state = .detached) : LinesFit (s.startJoin l) := by
  have hnone := (h l).attempt_none (by rw [hl]; rfl)
  obtain ⟨ht, hr, _, _, _, hq⟩ := (h l).counts
  have hq := hq (by simp [hl])
  refine h.of_line l (by simp) (by simp) ?_
  simp only [State.startJoin, State.line_withEngine, State.line_withLine, State.engine_withEngine, PerLine.get_set_self]
  refine ⟨⟨ht, hr, nofun, nofun, nofun, fun _ => hq⟩, rfl, ?_, rfl, ?_⟩ <;> simp [hnone, phaseHolds]

theorem linesFit_rejoin (h : LinesFit s) (hl : (s.line.get l).state = .off) :
    LinesFit (s.withLine l { s.line.get l with rejoin := true }) := by
  obtain ⟨⟨ht, hr, ha, hg, hoff, _⟩, hallowed, hholds, hrange, hpart⟩ := h l
  refine h.of_line l (by simp) (by simp) ?_
  simp only [State.line_withLine, State.engine_withLine, PerLine.get_set_self]
  exact ⟨⟨ht, hr, ha, hg, hoff, fun hne => absurd hl hne⟩, hallowed, hholds, hrange, hpart⟩

theorem linesFit_request {t : State} (h : LinesFit s) (ht : RequestLeaves s t) : LinesFit t := by
  cases ht with
  | same => exact h
  | claim => exact h.of_same rfl rfl
  | empty => exact h.of_same rfl rfl
  | edit => exact h.of_same rfl rfl
  | take i rest =>
    refine h.of_same ?_ ?_ <;> · rw [State.takeHead]; split <;> rfl
  | takeNone => exact h.of_same rfl rfl
  | ackEvents => exact h.of_same rfl rfl
  | join l hl => exact linesFit_startJoin h hl
  | rejoin l hl => exact linesFit_rejoin h hl
  | detach l => exact (linesFit_detachLine h).of_same rfl rfl
  | settingWrite => exact h.of_same rfl rfl
  | apply => exact h.of_same (by simp) (by simp)
  | clear => exact (linesFit_clearPart h).of_same rfl rfl

end

theorem linesFit_reset : LinesFit State.reset := by
  intro l
  cases l <;> exact ⟨countsAgree_zero rfl rfl rfl rfl nofun, rfl, rfl, rfl, nofun⟩

theorem linesFit_keptByEvents : KeptByEvents LinesFit where
  outside := fun _ _ _ _ h => h
  reset := linesFit_reset
  request := fun _ _ h ht => linesFit_request h ht
  bit := fun _ x h => h.of_line x.line rfl (by simp) (by
    rw [State.engine_withEngine, PerLine.get_set_self]
    exact lineFits_bit (h x.line) x.line x)
  frame := fun _ _ w h hc _ => linesFit_frame h w hc
  query := fun _ _ w h hq => linesFit_query h w hq
  receiveError := fun _ _ kind h hc => (linesFit_receiveErrorOn h kind hc).of_same rfl rfl
  selection := fun s l a h ha => linesFit_copyFrame h a (by
    by_contra hc
    rw [State.selection, if_neg hc] at ha
    cases ha)
  success := fun s l a h ha => linesFit_transmitSucceeds h a ((sendingAttempt_iff s l a).mp ha).1
  loss := fun s l a bits h ha => linesFit_loss h a bits ((sendingAttempt_iff s l a).mp ha).1
  transmitError := fun s l kind a h ha _ =>
    (linesFit_transmitErrorOn h kind a ((sendingAttempt_iff s l a).mp ha).1).of_same rfl rfl
  idleSequence := fun _ _ h _ => (linesFit_idleSequenceOn h).of_same rfl rfl
  period := fun _ _ h _ => h.of_same rfl rfl
  watch := fun _ _ h _ => h.of_same (by simp) (by simp)
  window := fun _ _ h _ => h.of_same rfl rfl

/-- Settles O51, event by event at the line it concerns. -/
theorem linesStayConsistent : Obligations.LinesStayConsistent := fun s t h ht =>
  (linesFit_iff t).mp (linesFit_keptByEvents.step ((linesFit_iff s).mpr h) ht)

end Sys2Proof.Machine

/-! PROOFS. Each cycle unit agrees with its line and its settings at every step (R138 to R142, R147, R149, R150, R152). -/

namespace Sys2Proof.Machine

open Sys2Proof.Safety

/-! ### What each event makes of a unit -/

theorem advance_eq (u : CycleUnit) : u.advance = { u with sync := (syncAfter u).1, holdOff := (syncAfter u).2 } := by
  unfold CycleUnit.advance syncAfter
  cases hs : u.sync with
  | regaining =>
    simp only
    split <;> simp
  | _ => simp [← hs, Config.holdOffStart]

section
variable (s : State) (l : LineId)

/-- R145: the unit after a boundary. -/
theorem State.cycle_takeBoundary (number : BitVec 4) :
    (s.takeBoundary l number).cycle.get l = unitAfter s l (s.cycle.get l) number := by
  unfold State.takeBoundary
  simp only [State.cycle_boundaryAtDirectory, State.cycle_raiseIf, State.cycle_withCycle, PerLine.get_set_self,
    advance_eq]
  rfl

/-- An outcome other than a success leaves the units alone. -/
theorem State.cycle_report_ended (a : Attempt) {x : Ending} (hx : x ≠ .success) : (s.report l a x).cycle = s.cycle := by
  unfold State.report
  split
  · unfold State.reportToCycleUnit
    cases x with
    | success => exact absurd rfl hx
    | _ => rfl
  · simp
  · simp

/-- R140 to R142: the unit after the controller's report. -/
def State.reportedUnit (old : LineState) : CycleUnit :=
  match old.participates, s.participates l with
  | false, true => s.unitJoins l
  | true, false => s.unitLeaves l
  | false, false => if (s.line.get l).state = .detached then s.unitRoleReset l else s.cycle.get l
  | true, true => s.cycle.get l

theorem State.cycle_lineStateReport (old : LineState) :
    (s.lineStateReport l old).cycle.get l = s.reportedUnit l old := by
  unfold State.lineStateReport State.reportedUnit
  cases old.participates <;> cases s.participates l
  · dsimp only
    split <;> simp
  · simp
  · simp
  · rfl

theorem State.cycle_stopLine {x : Ending} (hx : x ≠ .success) : (s.stopLine l x).cycle = s.cycle := by
  unfold State.stopLine
  dsimp only
  split <;> simp [State.cycle_report_ended _ l _ hx]

theorem State.cycle_watchExpires :
    (s.watchExpires l).cycle.get l =
      if (s.applied.line.get l).role = .source ∧ (s.cycle.get l).acting = .follower then
        { s.cycle.get l with watchTimer := .stopped, sync := .unsynced, holdOff := 0, acting := .source,
                             periodTimer := s.periodInterval l, due := true }
      else { s.cycle.get l with watchTimer := .stopped, sync := .unsynced, holdOff := 0 } := by
  unfold State.watchExpires State.resume
  simp only [State.applied_deliverUsability, State.applied_raiseIf, State.applied_withCycle, State.cycle_deliverUsability,
    State.cycle_raiseIf, State.cycle_withCycle, PerLine.get_set_self]
  split <;> simp [State.periodInterval]

theorem State.cycle_applyLineItems (x : LineSettings) :
    (s.applyLineItems l x).cycle.get l = { s.cycle.get l with sync := idleSync x.cycleMode, acting := x.role } := by
  unfold State.applyLineItems
  dsimp only
  split <;> simp

end

/-! ### One unit -/

/-- R138 to R142, R147, R149, R150, R152: the unit of one line agrees with the line's items and its controller. -/
structure UnitFits (u : CycleUnit) (x : LineSettings) (c : LineCtl) : Prop where
  free : x.cycleMode = .free ↔ u.sync = .free
  holdOff : u.holdOff ≤ 3 ∧ (u.holdOff ≠ 0 ↔ u.sync = .regaining)
  watch : u.watchTimer ≠ .stopped ↔ u.sync = .regaining ∨ u.sync = .synced
  period : u.periodTimer ≠ .stopped ↔ x.cycleMode = .beaconed ∧ c.state.participates = true ∧ u.acting = .source
  follower : x.role = .follower → u.acting = .follower
  sourceOnly : u.due = true ∨ u.fresh = true →
    x.cycleMode = .beaconed ∧ c.state.participates = true ∧ u.acting = .source
  apart : c.state.participates = false → u.sync = idleSync x.cycleMode ∧ u.acting = x.role
  ownBeacon : ∀ a, c.attempt = some a → a.owner = .beacon ∨ (∃ n k, a.frame = .beacon n k) → x.cycleMode = .beaconed
  partakes : c.attempt.isSome = true → c.state.participates = true

theorem unitAgrees_iff (s : State) (l : LineId) :
    UnitAgrees s l ↔ UnitFits (s.cycle.get l) (s.applied.line.get l) (s.line.get l) :=
  ⟨fun ⟨h1, h2, h3, h4, h5, h6, h7, h8, h9⟩ => ⟨h1, h2, h3, h4, h5, h6, h7, h8, h9⟩,
    fun ⟨h1, h2, h3, h4, h5, h6, h7, h8, h9⟩ => ⟨h1, h2, h3, h4, h5, h6, h7, h8, h9⟩⟩

section
variable {u : CycleUnit} {x : LineSettings} {c d : LineCtl}

/-- A unit sees of its controller whether the line takes part, and the buffer. -/
theorem UnitFits.of_ctl (h : UnitFits u x c) (hp : d.state.participates = c.state.participates)
    (ha : d.attempt = none ∨ d.attempt = c.attempt) : UnitFits u x d where
  free := h.free
  holdOff := h.holdOff
  watch := h.watch
  period := hp ▸ h.period
  follower := h.follower
  sourceOnly := hp ▸ h.sourceOnly
  apart := hp ▸ h.apart
  ownBeacon := fun a hd => by
    obtain hn | hs := ha
    · rw [hn] at hd; cases hd
    · exact h.ownBeacon a (hs ▸ hd)
  partakes := fun hd => by
    obtain hn | hs := ha
    · rw [hn] at hd; cases hd
    · rw [hp]; exact h.partakes (hs ▸ hd)

/-- R142: a unit that has left fits a line that takes no part. -/
theorem unitFits_left (hp : d.state.participates = false) (ha : d.attempt = none) :
    UnitFits { u with sync := idleSync x.cycleMode, holdOff := 0, acting := x.role, fresh := false, due := false,
                      periodTimer := .stopped, watchTimer := .stopped } x d where
  free := by cases hm : x.cycleMode <;> simp [idleSync]
  holdOff := by cases hm : x.cycleMode <;> simp [idleSync]
  watch := by cases hm : x.cycleMode <;> simp [idleSync]
  period := by simp [hp]
  follower := id
  sourceOnly := by simp
  apart := fun _ => ⟨rfl, rfl⟩
  ownBeacon := fun a h => by rw [ha] at h; cases h
  partakes := fun h => by rw [ha] at h; cases h

/-- R139: on a BEACONED line, and on no other, the unit is not FREE. -/
theorem UnitFits.beaconed_iff (h : UnitFits u x c) : x.cycleMode = .beaconed ↔ u.sync ≠ .free := by
  have hf := h.free
  cases hm : x.cycleMode <;> simp_all

/-- R147: a running watch is that of a BEACONED line that takes part. -/
theorem UnitFits.of_watch (h : UnitFits u x c) (hw : u.watchTimer ≠ .stopped) :
    x.cycleMode = .beaconed ∧ c.state.participates = true := by
  have hs := h.watch.mp hw
  have hm : x.cycleMode = .beaconed := h.beaconed_iff.mpr (by obtain hs | hs := hs <;> simp [hs])
  refine ⟨hm, ?_⟩
  by_contra hp
  obtain ⟨hi, _⟩ := h.apart (Bool.eq_false_iff.mpr hp)
  rw [hi, hm] at hs
  simp [idleSync] at hs

/-- R145: the sync state and the hold-off count move together. -/
theorem syncAfter_fits (h : UnitFits u x c) (hm : x.cycleMode = .beaconed) :
    (syncAfter u).1 ≠ .free ∧ ((syncAfter u).1 = .regaining ∨ (syncAfter u).1 = .synced) ∧ (syncAfter u).2 ≤ 3 ∧
      ((syncAfter u).2 ≠ 0 ↔ (syncAfter u).1 = .regaining) := by
  obtain ⟨hle, hiff⟩ := h.holdOff
  have hfree := h.beaconed_iff.mp hm
  unfold syncAfter
  cases hs : u.sync with
  | free => exact absurd hs hfree
  | unsynced => simp
  | synced =>
    have h0 : u.holdOff = 0 := by
      by_contra h0
      rw [hs] at hiff
      exact absurd (hiff.mp h0) (by decide)
    simp [h0]
  | regaining =>
    dsimp only
    split
    · simp
    next hne => exact ⟨by simp, by simp, by omega, by simp [hne]⟩

/-- R145: a boundary of a BEACONED line keeps the unit in agreement. -/
theorem unitFits_boundary (h : UnitFits u x c) (hm : x.cycleMode = .beaconed) (hp : c.state.participates = true)
    (s : State) (l : LineId) (number : BitVec 4) : UnitFits (unitAfter s l u number) x c := by
  obtain ⟨hfree, hsync, hle, hiff⟩ := syncAfter_fits h hm
  exact {
    free := by simp [unitAfter, hm, hfree]
    holdOff := ⟨hle, hiff⟩
    watch := by simp [unitAfter, hsync]
    period := h.period
    follower := h.follower
    sourceOnly := h.sourceOnly
    apart := fun hn => by rw [hp] at hn; cases hn
    ownBeacon := h.ownBeacon
    partakes := h.partakes }

/-- R151: the unit whose own BEACON has been sent. -/
theorem unitFits_sent (h : UnitFits u x c) : UnitFits { u with due := false, fresh := false } x c :=
  { h with sourceOnly := by simp }

/-- R152: the unit that has yielded. -/
theorem unitFits_yield (h : UnitFits u x c) (hp : c.state.participates = true) : UnitFits u.yield x c :=
  { h with
    period := by simp [CycleUnit.yield]
    follower := fun _ => rfl
    sourceOnly := by simp [CycleUnit.yield]
    apart := fun hn => by rw [hp] at hn; cases hn }

/-- R149: the period timer's expiry. -/
theorem unitFits_period (h : UnitFits u x c) (ht : u.periodTimer ≠ .stopped) (n : Nat) :
    UnitFits { u with periodTimer := .running n, due := true } x c :=
  { h with
    period := ⟨fun _ => h.period.mp ht, fun _ => nofun⟩
    sourceOnly := fun _ => h.period.mp ht }

/-- R147: the watch's expiry. -/
theorem unitFits_watch (h : UnitFits u x c) (hw : u.watchTimer ≠ .stopped) :
    UnitFits { u with watchTimer := .stopped, sync := .unsynced, holdOff := 0 } x c := by
  obtain ⟨hm, hp⟩ := h.of_watch hw
  exact { h with
    free := by simp [hm]
    holdOff := by simp
    watch := by simp
    apart := fun hn => by rw [hp] at hn; cases hn }

/-- R153: the unit that resumes. -/
theorem unitFits_resume (h : UnitFits u x c) (hm : x.cycleMode = .beaconed) (hp : c.state.participates = true)
    (hr : x.role = .source) (n : Nat) :
    UnitFits { u with acting := .source, periodTimer := .running n, due := true } x c :=
  { h with
    period := by simp [hm, hp]
    follower := fun hf => by rw [hr] at hf; cases hf
    sourceOnly := fun _ => ⟨hm, hp, rfl⟩
    apart := fun hn => by rw [hp] at hn; cases hn }

/-- R132, R149, R150: a line that takes no part has an empty buffer, and its unit nothing of a SOURCE's. -/
theorem UnitFits.quiet (h : UnitFits u x c) (hc : c.state.participates = false) :
    c.attempt = none ∧ u.periodTimer = .stopped ∧ ¬ (u.due = true ∨ u.fresh = true) := by
  have hno : ¬ c.state.participates = true := Bool.eq_false_iff.mp hc
  exact ⟨by_contra fun hne => hno (h.partakes (Option.isSome_iff_ne_none.mpr hne)),
    by_contra fun hne => hno (h.period.mp hne).2.1, fun hdue => hno (h.sourceOnly hdue).2.1⟩

/-- R142, R149: the unit of a line that starts taking part. -/
theorem unitFits_joins (h : UnitFits u x c) (hc : c.state.participates = false) (hp : d.state.participates = true)
    (ha : d.attempt = c.attempt) (n : Nat) :
    UnitFits (if x.cycleMode = .beaconed ∧ u.acting = .source then { u with fresh := true, periodTimer := .running n }
      else u) x d := by
  obtain ⟨hnone, hstop, hquiet⟩ := h.quiet hc
  have hd : d.attempt = none := ha.trans hnone
  split
  next hsource =>
    obtain ⟨hm, hs⟩ := hsource
    exact {
      free := h.free
      holdOff := h.holdOff
      watch := h.watch
      period := by simp [hm, hs, hp]
      follower := h.follower
      sourceOnly := fun _ => ⟨hm, hp, hs⟩
      apart := fun hn => by rw [hp] at hn; cases hn
      ownBeacon := fun a h => by rw [hd] at h; cases h
      partakes := fun _ => hp }
  next hsource =>
    exact {
      free := h.free
      holdOff := h.holdOff
      watch := h.watch
      period := ⟨fun hne => absurd hstop hne, fun ⟨hm, _, hs⟩ => absurd ⟨hm, hs⟩ hsource⟩
      follower := h.follower
      sourceOnly := fun hdue => absurd hdue hquiet
      apart := fun hn => by rw [hp] at hn; cases hn
      ownBeacon := fun a h => by rw [hd] at h; cases h
      partakes := fun _ => hp }

/-- R156, R187: the items of a DETACHED line replaced. -/
theorem unitFits_applied (h : UnitFits u x c) (hc : c.state.participates = false) (y : LineSettings) :
    UnitFits { u with sync := idleSync y.cycleMode, acting := y.role } y c := by
  obtain ⟨hnone, hstop, hquiet⟩ := h.quiet hc
  obtain ⟨hidle, _⟩ := h.apart hc
  have hheld : u.holdOff = 0 := by
    by_contra hne
    have := h.holdOff.2.mp hne
    rw [hidle] at this
    cases hm : x.cycleMode <;> rw [hm] at this <;> cases this
  have hwatch : u.watchTimer = .stopped := by
    by_contra hne
    have := h.of_watch hne
    rw [hc] at this
    cases this.2
  exact {
    free := by cases hm : y.cycleMode <;> simp [idleSync]
    holdOff := by cases hm : y.cycleMode <;> simp [idleSync, hheld]
    watch := by cases hm : y.cycleMode <;> simp [idleSync, hwatch]
    period := by simp [hstop, hc]
    follower := id
    sourceOnly := fun hdue => absurd hdue hquiet
    apart := fun _ => ⟨rfl, rfl⟩
    ownBeacon := fun a h => by rw [hnone] at h; cases h
    partakes := fun h => by rw [hnone] at h; cases h }

end

/-! ### Events -/

/-- Both units agree. -/
def UnitsFit (s : State) : Prop := ∀ l, UnitFits (s.cycle.get l) (s.applied.line.get l) (s.line.get l)

theorem unitsFit_iff (s : State) : UnitsFit s ↔ ∀ l, UnitAgrees s l :=
  forall_congr' fun l => (unitAgrees_iff s l).symm

section
variable {s t : State} {l : LineId}

/-- An event at one line leaves the other. -/
theorem UnitsFit.of_line (h : UnitsFit s) (l : LineId) (hl : t.line.get l.other = s.line.get l.other)
    (hc : t.cycle.get l.other = s.cycle.get l.other) (ha : t.applied.line.get l.other = s.applied.line.get l.other)
    (hf : UnitFits (t.cycle.get l) (t.applied.line.get l) (t.line.get l)) : UnitsFit t := by
  intro m
  obtain rfl | rfl := LineId.eq_or_other l m
  · exact hf
  · rw [hl, hc, ha]
    exact h l.other

theorem UnitsFit.of_same (h : UnitsFit s) (hl : t.line = s.line) (hc : t.cycle = s.cycle)
    (ha : t.applied.line = s.applied.line) : UnitsFit t := by
  intro m
  rw [hl, hc, ha]
  exact h m

/-- An event that moves only a controller, which takes part as before and gains no frame. -/
theorem UnitsFit.of_ctl (h : UnitsFit s) (l : LineId) (hl : t.line.get l.other = s.line.get l.other)
    (hc : t.cycle = s.cycle) (ha : t.applied = s.applied)
    (hp : (t.line.get l).state.participates = (s.line.get l).state.participates)
    (hb : (t.line.get l).attempt = none ∨ (t.line.get l).attempt = (s.line.get l).attempt) : UnitsFit t := by
  refine h.of_line l hl (by rw [hc]) (by rw [ha]) ?_
  rw [hc, ha]
  exact (h l).of_ctl hp hb

theorem counted_participates (c : LineCtl) (t r : Nat) : (counted c t r).state.participates = true :=
  (LineState.participates_iff _).mpr (stateFor_participates t r)

theorem unitsFit_withCounts (h : UnitsFit s) (hp : s.participates l = true) (t r : Nat) :
    UnitsFit (s.withCounts l t r) := by
  refine h.of_ctl l (by simp) (by simp) (by simp) ?_ ?_
  · rw [State.line_withCounts s l t r hp, counted_participates]
    exact hp.symm
  · rw [State.line_withCounts s l t r hp]
    exact .inr rfl

theorem unitsFit_emptyBuffer (h : UnitsFit s) : UnitsFit (s.emptyBuffer l) :=
  h.of_ctl l (by simp) (by simp) (by simp) (by simp) (.inl (by simp))

theorem unitsFit_takeBoundary (h : UnitsFit s) (hm : s.mode l = .beaconed) (hp : s.participates l = true)
    (number : BitVec 4) : UnitsFit (s.takeBoundary l number) := by
  refine h.of_line l (by simp) (by simp) (by simp) ?_
  rw [State.cycle_takeBoundary, State.applied_takeBoundary, State.line_takeBoundary]
  exact unitFits_boundary (h l) hm hp s l number

/-- A unit replaced by one that fits. -/
theorem unitsFit_withCycle (h : UnitsFit s) {u : CycleUnit} (hu : UnitFits u (s.applied.line.get l) (s.line.get l)) :
    UnitsFit (s.withCycle l u) :=
  h.of_line l rfl (by simp) rfl (by simpa using hu)

theorem unitsFit_deliverBeacon (h : UnitsFit s) (hp : s.participates l = true) (address : Nat) (number : BitVec 4) :
    UnitsFit (s.deliverBeacon l address number) := by
  unfold State.deliverBeacon
  split
  next => exact h
  next hm _ => exact unitsFit_takeBoundary h hm hp number
  next hm _ =>
    split
    · have hy : UnitsFit (s.withCycle l (s.cycle.get l).yield) := unitsFit_withCycle h (unitFits_yield (h l) hp)
      exact unitsFit_takeBoundary (s := (s.withCycle l (s.cycle.get l).yield).raise (.ofLine l .yielded))
        (hy.of_same rfl rfl rfl) hm hp number
    · exact h.of_same rfl rfl rfl

theorem unitsFit_deliver (h : UnitsFit s) (hp : s.participates l = true) (w : WireFrame) :
    UnitsFit (s.deliver l w) := by
  unfold State.deliver
  split
  · split
    · exact h
    · exact h.of_same rfl rfl rfl
  · split
    · exact h.of_same rfl rfl rfl
    · exact h.of_same rfl rfl rfl
  · split
    · exact unitsFit_deliverBeacon h hp _ _
    · exact h
  · exact h

theorem unitsFit_takeFrame (h : UnitsFit s) (hp : s.participates l = true) (w : WireFrame) :
    UnitsFit (s.takeFrame l w) :=
  (unitsFit_deliver (unitsFit_withCounts h hp _ _) (State.participates_withCounts s l _ _ hp) w).of_same rfl rfl rfl

theorem unitsFit_noteError (h : UnitsFit s) (kind : ErrorKind) : UnitsFit (s.noteError l kind) :=
  h.of_ctl l (by simp) rfl rfl (by simp) (.inr (by simp))

theorem unitsFit_receiveErrorOn (h : UnitsFit s) (hp : s.participates l = true) (kind : ErrorKind) :
    UnitsFit (s.receiveErrorOn l kind) :=
  unitsFit_withCounts (unitsFit_noteError (h.of_same (t := s.withEngine l _) rfl rfl rfl) kind)
    ((participates_noteError _ l kind l).trans hp) _ _

/-- What the part copies: a BEACON only on a BEACONED line (R134, R139). -/
theorem selection_ownBeacon {a : Attempt} (ha : s.selection l = some a)
    (hb : a.owner = .beacon ∨ ∃ n k, a.frame = .beacon n k) : s.mode l = .beaconed := by
  unfold State.selection at ha
  split at ha
  · unfold State.choice at ha
    split at ha
    next hdue => exact beq_iff_eq.mp (Bool.and_eq_true_iff.mp hdue).1
    next =>
      exfalso
      obtain ⟨i, _, hi⟩ := List.exists_of_findSome?_eq_some ha
      unfold State.offerAt at hi
      split at hi
      · unfold State.offer at hi
        dsimp only at hi
        (repeat' split at hi) <;> cases hi <;> simp at hb
      · cases hi
  · cases ha

theorem canSelect_of_selection {a : Attempt} (ha : s.selection l = some a) : s.canSelect l = true := by
  by_contra hc
  rw [State.selection, if_neg hc] at ha
  cases ha

theorem unitsFit_copyFrame (h : UnitsFit s) {a : Attempt} (ha : s.selection l = some a) :
    UnitsFit (s.copyFrame l a) := by
  have hp := ((canSelect_iff s l).mp (canSelect_of_selection ha)).1
  have hl := h l
  refine h.of_line l (by simp) (by simp) (by simp) ?_
  rw [State.cycle_copyFrame, State.applied_copyFrame, State.line_copyFrame]
  exact { hl with
    ownBeacon := fun b hb => by
      cases hb
      exact selection_ownBeacon ha
    partakes := fun _ => hp }

/-- R151: a success of the line's own BEACON is a boundary. -/
theorem unitsFit_report (h : UnitsFit s) (a : Attempt) (x : Ending) (hp : s.participates l = true)
    (hm : a.owner = .beacon → s.mode l = .beaconed) : UnitsFit (s.report l a x) := by
  unfold State.report
  split
  next ho =>
    unfold State.reportToCycleUnit
    split
    · exact unitsFit_takeBoundary (unitsFit_withCycle h (unitFits_sent (h l))) (hm ho) hp _
    · exact h
  next => exact h.of_same (by simp) (by simp) (by simp)
  next => exact h.of_same (by simp) (by simp) (by simp)

/-- An outcome other than a success. -/
theorem unitsFit_report_ended (h : UnitsFit s) (a : Attempt) {x : Ending} (hx : x ≠ .success) :
    UnitsFit (s.report l a x) :=
  h.of_same (by simp) (s.cycle_report_ended l a hx) (by simp)

theorem mode_of_sendingAttempt (h : UnitsFit s) {a : Attempt} (ha : s.sendingAttempt l = some a)
    (ho : a.owner = .beacon) : s.mode l = .beaconed :=
  (h l).ownBeacon a ((sendingAttempt_iff s l a).mp ha).2.1 (.inl ho)

theorem unitsFit_transmitSucceeds (h : UnitsFit s) {a : Attempt} (ha : s.sendingAttempt l = some a) :
    UnitsFit (s.transmitSucceeds l a) := by
  have hp := ((sendingAttempt_iff s l a).mp ha).1
  have hm := mode_of_sendingAttempt h ha
  unfold State.transmitSucceeds State.countTransmission
  have hcounted := unitsFit_withCounts (l := l) (h.of_same (t := s.withEngine l (.intermission 0)) rfl rfl rfl) hp
    ((s.line.get l).transmitCount - 1) (s.line.get l).receiveCount
  refine (unitsFit_report (unitsFit_emptyBuffer hcounted) a .success ?_ fun ho => ?_).of_same rfl rfl rfl
  · rw [State.participates_emptyBuffer]
    exact State.participates_withCounts _ l _ _ hp
  · rw [State.mode, State.applied_emptyBuffer, State.applied_withCounts]
    exact hm ho

theorem unitsFit_enterOff (h : UnitsFit s) (a : Attempt) (hp : s.participates l = true) :
    UnitsFit (s.enterOff l a) := by
  refine h.of_line l (by simp) (by simp) (by simp) ?_
  rw [line_enterOff, State.applied_enterOff]
  have hunit : (s.enterOff l a).cycle.get l = s.unitLeaves l := by
    unfold State.enterOff
    simp only [State.cycle_raise, State.cycle_lineStateReport]
    unfold State.reportedUnit
    have hold : (s.line.get l).state.participates = true := hp
    rw [hold]
    simp [State.participates, LineState.participates, State.unitLeaves, State.mode,
      State.cycle_report_ended _ l a (x := .abortOff) (by decide)]
  rw [hunit]
  exact unitFits_left rfl rfl

theorem unitsFit_transmitErrorOn (h : UnitsFit s) (kind : ErrorKind) (a : Attempt) (hp : s.participates l = true) :
    UnitsFit (s.transmitErrorOn l kind a) := by
  have hnoted : UnitsFit (s.errorNoted l kind) :=
    unitsFit_noteError (h.of_same (t := s.withEngine l _) rfl rfl rfl) kind
  have hp' : (s.errorNoted l kind).participates l = true := (s.participates_errorNoted l kind l).trans hp
  by_cases hf : (s.line.get l).failsOff kind
  · rw [State.transmitErrorOn_off s l kind a hf]
    exact unitsFit_enterOff hnoted a hp'
  · rw [State.transmitErrorOn_counts s l kind a hf]
    exact unitsFit_report_ended (unitsFit_emptyBuffer (unitsFit_withCounts hnoted hp' _ _)) a (by decide)

/-- R142: the unit of a line that has begun to take part fits. -/
theorem unitFits_reported_joins (h : UnitsFit s) {old : LineState} (hold : old.participates = false)
    (hs : (s.line.get l).state.participates = false) (hp : t.participates l = true)
    (hc : t.cycle.get l = s.cycle.get l) (ha : t.applied = s.applied)
    (hb : (t.line.get l).attempt = (s.line.get l).attempt) :
    UnitFits (t.reportedUnit l old) (s.applied.line.get l) (t.line.get l) := by
  unfold State.reportedUnit
  rw [hold, hp]
  simp only [State.unitJoins, State.mode, hc, ha]
  exact unitFits_joins (h l) hs hp hb _

theorem unitsFit_completeJoin (h : UnitsFit s) (hl : (s.line.get l).state = .joining) : UnitsFit (s.completeJoin l) := by
  refine h.of_line l (by simp) (by simp) (by simp) ?_
  rw [State.applied_completeJoin]
  unfold State.completeJoin
  dsimp only
  rw [State.cycle_lineStateReport, State.line_lineStateReport]
  refine unitFits_reported_joins h rfl (by rw [hl]; rfl) ?_ rfl rfl (by simp)
  have hjoined := (s.line.get l).joined_participates
  exact (participates_iff _ l).mpr (by simpa using hjoined)

theorem State.unitRoleReset_eq (h : UnitFits (s.cycle.get l) (s.applied.line.get l) (s.line.get l))
    (hs : (s.line.get l).state.participates = false) : s.unitRoleReset l = s.cycle.get l := by
  unfold State.unitRoleReset
  rw [← (h.apart hs).2]

/-- R142: the unit once its line has arrived in DETACHED. -/
theorem unitFits_reported_stops (h : UnitFits (s.cycle.get l) (s.applied.line.get l) (s.line.get l))
    (hd : (t.line.get l).state = .detached) (hb : (t.line.get l).attempt = none)
    (hc : t.cycle.get l = s.cycle.get l) (ha : t.applied = s.applied) :
    UnitFits (t.reportedUnit l (s.line.get l).state) (s.applied.line.get l) (t.line.get l) := by
  have hp : (t.line.get l).state.participates = false := by rw [hd]; rfl
  have hpt : t.participates l = false := hp
  unfold State.reportedUnit
  cases hs : (s.line.get l).state.participates with
  | true =>
    simp only [hpt, State.unitLeaves, State.mode, hc, ha]
    exact unitFits_left hp hb
  | false =>
    simp only [hpt, if_pos hd]
    have hrole : t.unitRoleReset l = s.unitRoleReset l := by simp only [State.unitRoleReset, hc, ha]
    rw [hrole, State.unitRoleReset_eq h hs]
    exact h.of_ctl (hp.trans hs.symm) (.inl hb)

/-! ### Notices -/

theorem participates_of_isDetached (h : s.isDetached l = true) : s.participates l = false := by
  have hd : (s.line.get l).state = .detached := beq_iff_eq.mp h
  simp [State.participates, hd, LineState.participates]

theorem unitsFit_applyLineItems (h : UnitsFit s) (hd : s.isDetached l = true) (x : LineSettings) :
    UnitsFit (s.applyLineItems l x) := by
  refine h.of_line l (by simp) (by simp) (by simp) ?_
  rw [State.cycle_applyLineItems, State.applied_applyLineItems, State.line_applyLineItems, Settings.line_putLine,
    PerLine.get_set_self]
  exact unitFits_applied (h l) (participates_of_isDetached hd) x

theorem unitsFit_tryLine (h : UnitsFit s) : UnitsFit (s.tryLine l) := by
  cases hset : s.applySet with
  | none => rw [State.tryLine_none l hset]; exact h
  | some p =>
    rw [State.tryLine_some l hset]
    split
    next hw =>
      exact (unitsFit_applyLineItems h (Bool.and_eq_true_iff.mp hw).2 _).of_same rfl rfl rfl
    next => exact h.of_same rfl rfl rfl

theorem unitsFit_tryBanks (h : UnitsFit s) : UnitsFit s.tryBanks := by
  refine h.of_same (by simp) (by simp) ?_
  cases hset : s.applySet with
  | none => rw [State.tryBanks_none hset]
  | some p =>
    rw [State.applied_tryBanks hset]
    split <;> rfl

theorem unitsFit_finishSet (h : UnitsFit s) : UnitsFit s.finishSet := h.of_same (by simp) (by simp) (by simp)

theorem unitsFit_notice (h : UnitsFit s) : UnitsFit (s.notice l) :=
  unitsFit_finishSet (unitsFit_tryBanks (unitsFit_tryLine h))

theorem unitsFit_applyStaged (h : UnitsFit s) : UnitsFit s.applyStaged := by
  unfold State.applyStaged
  dsimp only
  exact unitsFit_finishSet (unitsFit_tryBanks (unitsFit_tryLine (unitsFit_tryLine (h.of_same rfl rfl rfl))))

/-! ### Line states -/

theorem unitsFit_endRecovery (h : UnitsFit s) (hl : (s.line.get l).state = .off) : UnitsFit (s.endRecovery l) := by
  have hs : (s.line.get l).state.participates = false := by rw [hl]; rfl
  obtain ⟨hnone, _⟩ := (h l).quiet hs
  unfold State.endRecovery
  dsimp only
  split
  · refine h.of_line l (by simp) (by simp) (by simp) ?_
    rw [State.cycle_lineStateReport, State.line_lineStateReport, State.applied_lineStateReport]
    exact unitFits_reported_joins h rfl hs ((participates_iff _ l).mpr (by simp)) rfl rfl (by simp)
  · refine unitsFit_notice (h.of_line l (by simp) (by simp) (by simp) ?_)
    rw [State.cycle_lineStateReport, State.line_lineStateReport, State.applied_lineStateReport, ← hl]
    exact unitFits_reported_stops (h l) (by simp) (by simpa using hnone) rfl rfl

theorem unitsFit_idleSequenceOn (h : UnitsFit s) : UnitsFit (s.idleSequenceOn l) := by
  unfold State.idleSequenceOn
  split
  next => exact h
  next hl => exact unitsFit_completeJoin h hl
  next => exact h.of_same rfl rfl rfl
  next => exact h.of_same rfl rfl rfl
  next hl =>
    by_cases hend : Config.recoveryLength ≤ (s.line.get l).recovery + 1
    · rw [State.recoveryStep_ends s l hend]
      exact unitsFit_endRecovery h hl
    · rw [State.line_recoveryStep_counts s l (Nat.lt_of_not_le hend)]
      exact h.of_ctl l (by simp) rfl rfl (by simp) (.inr (by simp))

theorem unitsFit_detachLine (h : UnitsFit s) : UnitsFit (s.detachLine l) := by
  unfold State.detachLine
  split
  · exact unitsFit_notice h
  · refine unitsFit_notice (h.of_line l (by simp) (by simp) (by simp) ?_)
    rw [State.cycle_lineStateReport, State.line_lineStateReport, State.applied_lineStateReport, State.applied_stopLine]
    exact unitFits_reported_stops (h l) (by rw [State.line_stopLine]; rfl) (by rw [State.line_stopLine]; rfl)
      (by rw [State.cycle_stopLine s l (by decide)]) (by simp)

/-! ### CLEAR -/

@[simp] theorem State.cycle_clearLine (x : State) : (s.clearLine x l).cycle = x.cycle := by
  unfold State.clearLine
  split
  · rfl
  · exact x.cycle_stopLine l (by decide)

@[simp] theorem State.applied_clearLine (x : State) : (s.clearLine x l).applied = x.applied := by
  unfold State.clearLine
  split <;> simp

@[simp] theorem State.applied_clearReport (x : State) : (s.clearReport x l).applied = x.applied := by
  unfold State.clearReport
  split <;> simp

theorem State.cycle_clearReport (x : State) :
    (s.clearReport x l).cycle.get l =
      if s.isDetached l then x.cycle.get l else x.reportedUnit l (s.line.get l).state := by
  unfold State.clearReport
  split
  · rfl
  · exact x.cycle_lineStateReport l _

theorem State.cycle_clearReport_other (x : State) : (s.clearReport x l).cycle.get l.other = x.cycle.get l.other := by
  unfold State.clearReport
  split <;> simp

/-- Both lines stopped, neither reported. -/
def State.clearStopped (s : State) : State := s.clearLine (s.clearLine s.emptied .a) .b

theorem State.line_clearStopped (s : State) (l : LineId) : s.clearStopped.line.get l = s.clearedLine l := by
  have h := s.line_clearPart l
  rw [State.clearPart_eq, State.line_notice, State.line_notice] at h
  unfold State.cleared at h
  rwa [State.line_clearReport, State.line_clearReport] at h

theorem State.cycle_clearStopped (s : State) : s.clearStopped.cycle = s.cycle := by
  simp [State.clearStopped, State.emptied]

theorem State.applied_clearStopped (s : State) : s.clearStopped.applied = s.applied := by
  simp [State.clearStopped, State.emptied]

theorem State.line_cleared (s : State) : s.cleared.line = s.clearStopped.line := by
  simp [State.cleared, State.clearStopped]

theorem State.applied_cleared (s : State) : s.cleared.applied = s.applied := by
  simp [State.cleared, State.emptied]

/-- The report of one line does not reach the other's unit. -/
theorem State.cycle_cleared (s : State) (l : LineId) :
    ∃ x, s.cleared.cycle.get l = (s.clearReport x l).cycle.get l ∧ x.line = s.clearStopped.line ∧
      x.cycle.get l = s.cycle.get l ∧ x.applied = s.applied := by
  cases l with
  | a =>
    exact ⟨s.clearStopped, s.cycle_clearReport_other (l := .b) _, rfl, by rw [s.cycle_clearStopped],
      s.applied_clearStopped⟩
  | b =>
    refine ⟨s.clearReport s.clearStopped .a, rfl, by simp, ?_, by simp [s.applied_clearStopped]⟩
    exact (s.cycle_clearReport_other (l := .a) _).trans (by rw [s.cycle_clearStopped]; rfl)

theorem unitsFit_cleared (h : UnitsFit s) : UnitsFit s.cleared := by
  intro l
  obtain ⟨x, hx, hl, hc, ha⟩ := s.cycle_cleared l
  rw [hx, State.line_cleared, State.applied_cleared, State.cycle_clearReport]
  have hline : x.line.get l = s.clearedLine l := by rw [hl, s.line_clearStopped]
  rw [s.line_clearStopped, State.clearedLine]
  split
  · rw [hc]
    exact h l
  next hd =>
    have hstop : x.line.get l = (s.line.get l).stop := by rw [hline, State.clearedLine, if_neg hd]
    rw [← hstop]
    exact unitFits_reported_stops (h l) (by rw [hstop]; rfl) (by rw [hstop]; rfl) hc ha

theorem unitsFit_clearPart (h : UnitsFit s) : UnitsFit s.clearPart :=
  unitsFit_notice (unitsFit_notice (unitsFit_cleared h))

/-! ### Every event -/

theorem unitsFit_watchExpires (h : UnitsFit s) (hw : (s.cycle.get l).watchTimer ≠ .stopped) :
    UnitsFit (s.watchExpires l) := by
  refine h.of_line l (by simp) (by simp) (by simp) ?_
  rw [State.cycle_watchExpires, State.line_watchExpires, State.applied_watchExpires]
  have hexpired := unitFits_watch (h l) hw
  split
  next hr =>
    obtain ⟨hm, hp⟩ := (h l).of_watch hw
    exact unitFits_resume hexpired hm hp hr.1 _
  next => exact hexpired

theorem unitsFit_periodExpires (h : UnitsFit s) (ht : (s.cycle.get l).periodTimer ≠ .stopped) :
    UnitsFit (s.periodExpires l) :=
  unitsFit_withCycle h (unitFits_period (h l) ht _)

theorem unitsFit_request (h : UnitsFit s) (ht : RequestLeaves s t) : UnitsFit t := by
  cases ht with
  | same => exact h
  | claim => exact h.of_same rfl rfl rfl
  | empty => exact h.of_same rfl rfl rfl
  | edit => exact h.of_same rfl rfl rfl
  | take i rest =>
    refine h.of_same ?_ ?_ ?_ <;> · rw [State.takeHead]; split <;> rfl
  | takeNone => exact h.of_same rfl rfl rfl
  | ackEvents => exact h.of_same rfl rfl rfl
  | join l hl =>
    exact h.of_ctl l (by simp) rfl rfl (by simp [State.startJoin, hl, LineState.participates])
      (.inr (by simp [State.startJoin]))
  | rejoin l => exact h.of_ctl l (by simp) rfl rfl (by simp) (.inr (by simp))
  | detach l => exact (unitsFit_detachLine h).of_same rfl rfl rfl
  | settingWrite => exact h.of_same rfl rfl rfl
  | apply => exact (unitsFit_applyStaged h).of_same rfl rfl rfl
  | clear => exact (unitsFit_clearPart h).of_same rfl rfl rfl

end

theorem unitsFit_reset : UnitsFit State.reset := by
  have hleft := unitFits_left (u := .reset) (x := .default) (d := .reset) rfl rfl
  intro l
  cases l <;> exact hleft

theorem unitsFit_keptByEvents : KeptByEvents UnitsFit where
  outside := fun _ _ _ _ h => h
  reset := unitsFit_reset
  request := fun _ _ h ht => unitsFit_request h ht
  bit := fun _ _ h => h.of_same rfl rfl rfl
  frame := fun s l w h hc _ =>
    unitsFit_takeFrame (h.of_same (t := s.withEngine l _) rfl rfl rfl) ((canReceive_iff s l).mp hc).1 w
  query := fun s l w h hq => by
    obtain ⟨a, ha⟩ := Option.ne_none_iff_exists'.mp ((queriedInFlight_iff s l w).mp hq).1
    exact unitsFit_takeFrame h ((sendingAttempt_iff s l a).mp ha).1 w
  receiveError := fun s l kind h hc =>
    (unitsFit_receiveErrorOn h ((canReceive_iff s l).mp hc).1 kind).of_same rfl rfl rfl
  selection := fun _ _ _ h ha => unitsFit_copyFrame h ha
  success := fun _ _ _ h ha => unitsFit_transmitSucceeds h ha
  loss := fun s l a bits h _ =>
    (unitsFit_report_ended (unitsFit_emptyBuffer (h.of_same (t := s.withEngine l (.receiving bits)) rfl rfl rfl)) a
      (by decide)).of_same rfl rfl rfl
  transmitError := fun s l kind a h ha _ =>
    (unitsFit_transmitErrorOn h kind a ((sendingAttempt_iff s l a).mp ha).1).of_same rfl rfl rfl
  idleSequence := fun _ _ h _ => (unitsFit_idleSequenceOn h).of_same rfl rfl rfl
  period := fun _ _ h ht => unitsFit_periodExpires h ht
  watch := fun _ _ h hw => (unitsFit_watchExpires h hw).of_same rfl rfl rfl
  window := fun _ _ h _ => h.of_same rfl rfl rfl

/-- Settles O59, event by event at the unit it concerns. -/
theorem unitsStayConsistent : Obligations.UnitsStayConsistent := fun s t h ht =>
  (unitsFit_iff t).mp (unitsFit_keptByEvents.step ((unitsFit_iff s).mpr h) ht)

end Sys2Proof.Machine

/-! PROOFS. The directory: the reactions an event can have at an entry, and what every event does to entries and queue
(R6, R7, R18, R30 to R48, R52, R60 to R68, R74 to R77, R82, R84). -/

namespace Sys2Proof.Machine

open Sys2Proof.Safety

/-- The reactions of an entry to an event of the directory, but for the outcome of its own frame. -/
inductive Reacts (e : Entry) : Reaction → Prop where
  | unchanged : Reacts e e.unchanged
  | accept (v : Value) (stamp : Option (BitVec 4)) (hv : v.length ≤ 8) (hk : e.kind ≠ .output)
      (hs : e.state = .live ∨ e.state = .stale) : Reacts e (e.accept v stamp)
  | ageing (hk : e.kind ≠ .output) (hs : e.state = .live ∨ e.state = .stale) : Reacts e e.ageing
  | freeze (hk : e.kind ≠ .output) (hs : e.state = .live ∨ e.state = .stale) :
      Reacts e { entry := { e with state := .frozen, candidate := none }, causes := [.froze] }
  | thaw (hk : e.kind ≠ .output) (hs : e.state = .frozen) :
      Reacts e { entry := { e with state := .live, age := 0, candidate := none }, causes := [.thawed] }
  | boundary (number : BitVec 4) (hk : e.kind = .output) : Reacts e { entry := e.atBoundary number, causes := [] }
  | sample (hs : e.samples = true) : Reacts e { entry := e.sample .free, causes := [] }
  | queried (hk : e.kind ≠ .input) (hs : e.state = .live ∨ e.state = .stale ∨ e.state = .frozen) :
      Reacts e { entry := { e with publishPending := true }, causes := [.queried] }
  | conflict (hk : e.kind ≠ .input) (hs : e.state ≠ .retiring) : Reacts e { entry := e, causes := [.conflict] }

/-- Every entry of a state reacts to an event in one of those ways. -/
def State.Reacting (s : State) (f : Index → Entry → Reaction) : Prop := ∀ i e, s.entry i = some e → Reacts e (f i e)

/-! ### The events of the directory -/

section
variable (e : Entry)

theorem Entry.freeze_reacts : Reacts e e.freeze := by
  unfold Entry.freeze
  split
  next h =>
    simp only [Bool.and_eq_true, bne_iff_ne, Bool.or_eq_true, beq_iff_eq] at h
    exact .freeze h.1 h.2
  next => exact .unchanged

theorem Entry.thaw_reacts : Reacts e e.thaw := by
  unfold Entry.thaw
  split
  next h =>
    simp only [Bool.and_eq_true, bne_iff_ne, beq_iff_eq] at h
    exact .thaw h.1 h.2
  next => exact .unchanged

theorem Entry.receive_reacts (v : Value) (stamp : Option (BitVec 4)) (hv : v.length ≤ 8) (hk : e.kind ≠ .output) :
    Reacts e (e.receive v stamp) := by
  unfold Entry.receive
  split
  next hs => exact .accept v stamp hv hk (.inl hs)
  next hs => exact .accept v stamp hv hk (.inr hs)
  next => exact .unchanged
  next => exact .unchanged
  next => exact .unchanged

theorem Entry.boundary_reacts (number : BitVec 4) (gained : Bool) : Reacts e (e.boundary number gained) := by
  unfold Entry.boundary
  split
  next hk => exact .boundary number hk
  next hk =>
    have hk : e.kind ≠ .output := hk
    split
    next hs => exact .ageing hk (.inl hs)
    next hs => exact .ageing hk (.inr hs)
    next =>
      split
      · exact e.thaw_reacts
      · exact .unchanged
    next => exact .unchanged

theorem Entry.queried_reacts (hk : e.kind ≠ .input) : Reacts e e.queried := by
  unfold Entry.queried
  split
  next hs => exact .queried hk (.inl hs)
  next hs => exact .queried hk (.inr (.inl hs))
  next hs => exact .queried hk (.inr (.inr hs))
  next => exact .unchanged
  next => exact .unchanged

end

section
variable {s : State} {l : LineId} {t : Tag} {i : Index} {e : Entry}

/-- R22: the winner of the receiving match has a receiving side and is LIVE, STALE or FROZEN. -/
theorem receivingMatch_wins (h : s.receivingMatch l t = some i) (he : s.entry i = some e) :
    e.kind ≠ .output ∧ s.home i = l ∧ (e.state = .live ∨ e.state = .stale ∨ e.state = .frozen) := by
  obtain ⟨x, hx, hk, hh, hs, _⟩ := (s.inReceivingMatch_iff l t i).mp (List.find?_some h)
  rw [he] at hx
  cases hx
  exact ⟨hk, hh, hs⟩

/-- R24: the winner of the publishing match publishes on the line and is not RETIRING. -/
theorem publishingMatch_wins (h : s.publishingMatch l t = some i) (he : s.entry i = some e) :
    e.kind ≠ .input ∧ e.state ≠ .retiring := by
  obtain ⟨x, hx, hs, hk⟩ := (s.inPublishingMatch_iff l t i).mp (List.find?_some h)
  rw [he] at hx
  cases hx
  refine ⟨?_, hs⟩
  obtain ⟨hk, _⟩ | ⟨hk, _⟩ := hk <;> simp [hk]

theorem recalled_kind (h : s.recalled l i e = true) : e.kind ≠ .input := by
  unfold State.recalled at h
  intro hk
  simp [publishingSide, hk] at h

theorem freezeLine_reacting (s : State) (l : LineId) :
    s.Reacting fun i e => if s.home i = l then e.freeze else e.unchanged := by
  intro i e _
  dsimp only
  split
  · exact e.freeze_reacts
  · exact .unchanged

theorem thawLine_reacting (s : State) (l : LineId) :
    s.Reacting fun i e => if s.home i = l then e.thaw else e.unchanged := by
  intro i e _
  dsimp only
  split
  · exact e.thaw_reacts
  · exact .unchanged

theorem boundary_reacting (s : State) (l : LineId) (number : BitVec 4) (gained : Bool) :
    s.Reacting fun i e => if s.home i = l then e.boundary number gained else e.unchanged := by
  intro i e _
  dsimp only
  split
  · exact e.boundary_reacts number gained
  · exact .unchanged

theorem deliverData_reacting (s : State) (l : LineId) (t : Tag) (v : Value) (hv : v.length ≤ 8) :
    s.Reacting fun i e =>
      if s.receivingMatch l t = some i then e.receive v (s.stampNow l)
      else if s.publishingMatch l t = some i then { entry := e, causes := [.conflict] }
      else e.unchanged := by
  intro i e he
  dsimp only
  split
  next hm => exact e.receive_reacts v _ hv (receivingMatch_wins hm he).1
  next =>
    split
    next hm =>
      obtain ⟨hk, hs⟩ := publishingMatch_wins hm he
      exact .conflict hk hs
    next => exact .unchanged

theorem deliverQuery_reacting (s : State) (l : LineId) (t : Tag) :
    s.Reacting fun i e => if s.publishingMatch l t = some i then e.queried else e.unchanged := by
  intro i e he
  dsimp only
  split
  next hm => exact e.queried_reacts (publishingMatch_wins hm he).1
  next => exact .unchanged

theorem deliverRecall_reacting (s : State) (l : LineId) :
    s.Reacting fun i e => if s.recalled l i e then e.queried else e.unchanged := by
  intro i e _
  dsimp only
  split
  next hr => exact e.queried_reacts (recalled_kind hr)
  next => exact .unchanged

/-- A reaction without a cause puts its entry in place. -/
theorem Reaction.result_quiet (x e : Entry) : ({ entry := x, causes := [] } : Reaction).result e = x := by
  unfold Reaction.result
  split <;> rfl

/-- R62: what sampling on a FREE line does to each entry. -/
def sampleReaction (p : Index → Bool) (i : Index) (e : Entry) : Reaction :=
  if p i && e.samples then { entry := e.sample .free, causes := [] } else e.unchanged

theorem sampleReaction_causes (p : Index → Bool) (i : Index) (e : Entry) : (sampleReaction p i e).causes = [] := by
  unfold sampleReaction
  split <;> rfl

/-- R62: a sampling is an event at the directory that raises no cause. -/
theorem sampleWhere_eq (s : State) (p : Index → Bool) : s.sampleWhere p = s.react (sampleReaction p) := by
  have hq : s.newlyQueued (sampleReaction p) = [] := by
    unfold State.newlyQueued
    rw [List.filter_eq_nil_iff]
    intro i _
    cases he : s.entry i with
    | none => simp
    | some e => simp [Reaction.notifies, sampleReaction_causes]
  unfold State.sampleWhere State.react
  rw [hq, List.append_nil]
  have hd : (fun i e => (sampleReaction p i e).result e) =
      fun i e => if p i && e.samples then e.sample .free else e := by
    funext i e
    unfold sampleReaction
    split
    · exact Reaction.result_quiet _ _
    · exact Reaction.result_unchanged e
  rw [hd]
  rfl

theorem sampleWhere_reacting (s : State) (p : Index → Bool) : s.Reacting (sampleReaction p) := by
  intro i e _
  unfold sampleReaction
  split
  next h => exact .sample (Bool.and_eq_true_iff.mp h).2
  next => exact .unchanged

end

/-! ### A predicate of the directory -/

/-- A predicate of entries, queue and applied bank map that the reactions keep. -/
structure KeptByReactions (P : State → Prop) : Prop where
  same : ∀ s t, P s → t.entries = s.entries → t.queue = s.queue → t.applied.bankMap = s.applied.bankMap → P t
  react : ∀ s f, P s → s.Reacting f → P (s.react f)

/-- A predicate of entries, queue and applied bank map, kept by all that reaches them. -/
structure KeptByDirectory (P : State → Prop) : Prop extends KeptByReactions P where
  vacant : ∀ s, (∀ i, s.entry i = none) → s.queue = [] → P s
  outcome : ∀ s l i e a x stamp, P s → s.entry i = some e → e.state ≠ .retiring →
    P (s.reactAt i fun y => (y.landed l).outcome a x stamp)
  empty : ∀ s i, P s → P (s.emptyEntry i)
  moved : ∀ s i e x, P s → s.entry i = some e → P (s.setEntry i { e with inFlight := x })
  claim : ∀ s op i e, P s → claimedEntry op = some e → s.entry i = none → s.duplicates i e = false →
    P (s.setEntry i { e with state := s.initialState i e.kind })
  edit : ∀ s i e x m, P s → s.entry i = some e → EntryEdit m e x → P (s.setEntry i x)
  take : ∀ s i rest, P s → s.queue = i :: rest → P (s.takeHead i rest)
  banks : ∀ s m, P s → guardHolds m s.entries = true → P (s.withApplied { s.applied with bankMap := m })

/-- An event at one entry, entry by entry. -/
theorem reactAt_each {s : State} {i : Index} {e : Entry} {g : Entry → Reaction} {Q : Entry → Entry → Prop}
    (he : s.entry i = some e) (hi : Q e (g e).entry) (hrest : ∀ y, Q y y) :
    ∀ j y, s.entry j = some y → Q y (if j = i then g y else y.unchanged).entry := by
  intro j y hy
  split
  next hj =>
    rw [hj, he] at hy
    cases hy
    exact hi
  next => exact hrest y

theorem legal_payload {w : WireFrame} (h : w.legal = true) (hk : w.kind = 2) : w.payload.length ≤ 8 := by
  rcases w with ⟨tag, kind, payload⟩
  subst hk
  simpa [WireFrame.legal] using h

section
variable {P : State → Prop} (K : KeptByReactions P) {s : State} {l : LineId}
include K

theorem KeptByReactions.withLine (h : P s) (l : LineId) (x : LineCtl) : P (s.withLine l x) := K.same s _ h rfl rfl rfl

theorem KeptByReactions.withEngine (h : P s) (l : LineId) (x : Phase) : P (s.withEngine l x) :=
  K.same s _ h rfl rfl rfl

theorem KeptByReactions.withCycle (h : P s) (l : LineId) (x : CycleUnit) : P (s.withCycle l x) :=
  K.same s _ h rfl rfl rfl

theorem KeptByReactions.withApplySet (h : P s) (x : Option ApplySet) : P (s.withApplySet x) := K.same s _ h rfl rfl rfl

theorem KeptByReactions.raise (h : P s) (f : EventFlag) : P (s.raise f) := K.same s _ h rfl rfl rfl

theorem KeptByReactions.raiseIf (h : P s) (c : Bool) (f : EventFlag) : P (s.raiseIf c f) :=
  K.same s _ h (by simp) (by simp) (by simp)

theorem KeptByReactions.judgePins (h : P s) : P s.judgePins := K.same s _ h rfl rfl rfl

theorem KeptByReactions.servicePins (h : P s) (before : State) : P (s.servicePins before) := K.same s _ h rfl rfl rfl

theorem KeptByReactions.withCounts (h : P s) (l : LineId) (t r : Nat) : P (s.withCounts l t r) :=
  K.same s _ h (by simp) (by simp) (by simp)

theorem KeptByReactions.noteError (h : P s) (l : LineId) (kind : ErrorKind) : P (s.noteError l kind) :=
  K.same s _ h rfl rfl rfl

theorem KeptByReactions.emptyBuffer (h : P s) (l : LineId) : P (s.emptyBuffer l) := K.same s _ h rfl rfl rfl

theorem KeptByReactions.resume (h : P s) (l : LineId) : P (s.resume l) := K.same s _ h (by simp) (by simp) (by simp)

theorem KeptByReactions.deliverUsability (h : P s) (before : Bool) : P (s.deliverUsability l before) := by
  unfold State.deliverUsability
  split
  · exact K.react s _ h (freezeLine_reacting s l)
  · exact K.react s _ h (thawLine_reacting s l)
  · exact h

theorem KeptByReactions.takeBoundary (h : P s) (number : BitVec 4) : P (s.takeBoundary l number) := by
  unfold State.takeBoundary
  exact K.react _ _ (K.raiseIf (K.withCycle h l _) _ _) (boundary_reacting _ l number _)

theorem KeptByReactions.deliverBeacon (h : P s) (address : Nat) (number : BitVec 4) :
    P (s.deliverBeacon l address number) := by
  unfold State.deliverBeacon
  split
  · exact h
  · exact K.takeBoundary h number
  · split
    · exact K.takeBoundary (K.raise (K.withCycle h l _) _) number
    · exact K.raise h _

theorem KeptByReactions.deliver (h : P s) (w : WireFrame) (hw : w.legal = true) : P (s.deliver l w) := by
  unfold State.deliver
  split
  next hk =>
    split
    · exact h
    · exact K.react s _ h (deliverData_reacting s l _ _ (legal_payload hw hk))
  next =>
    split
    · exact K.react s _ h (deliverRecall_reacting s l)
    · exact K.react s _ h (deliverQuery_reacting s l _)
  next =>
    split
    · exact K.deliverBeacon h _ _
    · exact h
  next => exact h

theorem KeptByReactions.takeFrame (h : P s) (w : WireFrame) (hw : w.legal = true) : P (s.takeFrame l w) :=
  K.judgePins (K.deliver (K.withCounts h l _ _) w hw)

theorem KeptByReactions.lineStateReport (h : P s) (old : LineState) : P (s.lineStateReport l old) := by
  unfold State.lineStateReport
  dsimp only
  split
  · exact K.deliverUsability (K.withCycle h l _) _
  · exact K.deliverUsability (K.withCycle h l _) _
  · split
    · exact K.withCycle h l _
    · exact h
  · exact h

theorem KeptByReactions.sampleWhere (h : P s) (p : Index → Bool) : P (s.sampleWhere p) := by
  rw [sampleWhere_eq]
  exact K.react s _ h (sampleWhere_reacting s p)

theorem KeptByReactions.applyLineItems (h : P s) (x : LineSettings) : P (s.applyLineItems l x) := by
  have hnew : P (s.withApplied (s.applied.putLine l x)) := K.same s _ h rfl rfl rfl
  unfold State.applyLineItems
  dsimp only
  split
  · exact K.sampleWhere (K.withCycle hnew l _) _
  · exact K.withCycle hnew l _

theorem KeptByReactions.tryLine (h : P s) : P (s.tryLine l) := by
  cases hset : s.applySet with
  | none => rw [State.tryLine_none l hset]; exact h
  | some p =>
    rw [State.tryLine_some l hset]
    split
    · exact K.withApplySet (K.applyLineItems h _) _
    · exact K.withApplySet h _

theorem KeptByReactions.finishSet (h : P s) : P s.finishSet := K.same s _ h (by simp) (by simp) (by simp)

theorem KeptByReactions.watchExpires (h : P s) : P (s.watchExpires l) := by
  unfold State.watchExpires
  exact K.resume (K.deliverUsability (K.raiseIf (K.withCycle h l _) _ _) _) l

end

section
variable {P : State → Prop} (K : KeptByDirectory P) {s : State} {l : LineId}
include K

theorem KeptByDirectory.reportToEntry (h : P s) (i : Index) (a : Attempt) (x : Ending) :
    P (s.reportToEntry l i a x) := by
  unfold State.reportToEntry
  split
  next => exact h
  next e he =>
    split
    · split
      · split
        · exact K.empty s i h
        · exact K.moved s i e _ h he
      next hs => exact K.outcome s l i e a x _ h he hs
    · exact h

theorem KeptByDirectory.report (h : P s) (a : Attempt) (x : Ending) : P (s.report l a x) := by
  unfold State.report
  split
  · unfold State.reportToCycleUnit
    split
    · exact K.takeBoundary (K.withCycle h l _) _
    · exact h
  · exact K.reportToEntry h _ a x
  · exact K.reportToEntry h _ a x

theorem KeptByDirectory.launch (h : P s) (i : Index) : P (s.launch l i) := by
  unfold State.launch
  split
  next e he => exact K.moved s i e _ h he
  next => exact h

theorem KeptByDirectory.copyFrame (h : P s) (a : Attempt) : P (s.copyFrame l a) := by
  have hcopied : P (s.withLine l { s.line.get l with attempt := some a }) := K.withLine h l _
  unfold State.copyFrame
  dsimp only
  split
  · exact hcopied
  · exact K.launch hcopied _
  · exact K.launch hcopied _

/-- An attempt ended in anything: the buffer is emptied, then the outcome is reported. -/
theorem KeptByDirectory.ended (h : P s) (a : Attempt) (x : Ending) : P ((s.emptyBuffer l).report l a x) :=
  K.report (K.emptyBuffer h l) a x

theorem KeptByDirectory.transmitErrorOn (h : P s) (kind : ErrorKind) (a : Attempt) : P (s.transmitErrorOn l kind a) := by
  have hnoted : P (s.errorNoted l kind) := K.noteError (K.withEngine h l _) l kind
  by_cases hf : (s.line.get l).failsOff kind
  · rw [State.transmitErrorOn_off s l kind a hf]
    unfold State.enterOff
    dsimp only
    exact K.raise (K.raise (K.lineStateReport (K.withLine (K.ended hnoted a .abortOff) l _) _) _) _
  · rw [State.transmitErrorOn_counts s l kind a hf]
    exact K.ended (K.withCounts hnoted l _ _) a .error

theorem KeptByDirectory.moveBanks (h : P s) {m : BankMap} (hm : guardHolds m s.entries = true) : P (s.moveBanks m) := by
  unfold State.moveBanks
  exact K.sampleWhere (K.banks s m h hm) _

theorem KeptByDirectory.tryBanks (h : P s) : P s.tryBanks := by
  cases hset : s.applySet with
  | none => rw [State.tryBanks_none hset]; exact h
  | some p =>
    rw [State.tryBanks_some hset]
    split
    next hgo =>
      have hguard : guardHolds p.values.bankMap s.entries = true := (Bool.and_eq_true_iff.mp hgo).2
      exact K.raiseIf (K.withApplySet (K.moveBanks h hguard) _) _ _
    next => exact K.raiseIf (K.withApplySet h _) _ _

theorem KeptByDirectory.notice (h : P s) : P (s.notice l) := K.finishSet (K.tryBanks (K.tryLine h))

theorem KeptByDirectory.applyStaged (h : P s) : P s.applyStaged := by
  have hrouted : P (s.withApplied { s.applied with routes := s.staged.routes }) := K.same s _ h rfl rfl rfl
  exact K.finishSet (K.tryBanks (K.tryLine (K.tryLine (K.withApplySet hrouted _))))

theorem KeptByDirectory.stopLine (h : P s) (x : Ending) : P (s.stopLine l x) := by
  unfold State.stopLine
  dsimp only
  split
  · exact K.withLine (K.ended (K.withEngine h l _) _ x) l _
  · exact K.withLine (K.emptyBuffer (K.withEngine h l _) l) l _

theorem KeptByDirectory.detachLine (h : P s) : P (s.detachLine l) := by
  unfold State.detachLine
  split
  · exact K.notice h
  · exact K.notice (K.lineStateReport (K.stopLine h .abortDetach) _)

theorem KeptByDirectory.clearLine (x : State) (h : P x) : P (s.clearLine x l) := by
  unfold State.clearLine
  split
  · exact h
  · exact K.stopLine h .abortClear

theorem KeptByDirectory.clearReport (x : State) (h : P x) : P (s.clearReport x l) := by
  unfold State.clearReport
  split
  · exact h
  · exact K.lineStateReport h _

theorem KeptByDirectory.clearPart : P s.clearPart := by
  have hempty : P s.emptied := K.vacant _ (fun i => Directory.get_empty i) rfl
  exact K.notice (K.notice (K.clearReport _ (K.clearReport _ (K.clearLine _ (K.clearLine _ hempty)))))

theorem KeptByDirectory.endRecovery (h : P s) : P (s.endRecovery l) := by
  unfold State.endRecovery
  dsimp only
  split
  · exact K.lineStateReport (K.raise (K.withEngine (K.withLine h l _) l _) _) _
  · exact K.notice (K.lineStateReport (K.raise (K.withEngine (K.withLine h l _) l _) _) _)

theorem KeptByDirectory.idleSequenceOn (h : P s) : P (s.idleSequenceOn l) := by
  unfold State.idleSequenceOn
  split
  · exact h
  · exact K.lineStateReport (K.raise (K.withEngine (K.withLine h l _) l _) _) _
  · exact K.withEngine h l _
  · exact K.withEngine h l _
  · unfold State.recoveryStep
    dsimp only
    split
    · exact K.endRecovery h
    · exact K.withEngine (K.withLine h l _) l _

theorem KeptByDirectory.request {t : State} (h : P s) (ht : RequestLeaves s t) : P t := by
  cases ht with
  | same => exact h
  | claim op i e he hi hd => exact K.claim s op i e h he hi hd
  | empty i => exact K.judgePins (K.empty s i h)
  | edit i e x he hx => exact K.edit s i e x _ h he hx
  | take i rest hq => exact K.servicePins (K.take s i rest h hq) s
  | takeNone => exact K.servicePins h s
  | ackEvents => exact K.same s _ h rfl rfl rfl
  | join => exact K.same s _ h rfl rfl rfl
  | rejoin => exact K.same s _ h rfl rfl rfl
  | detach l => exact K.judgePins (K.detachLine h)
  | settingWrite => exact K.same s _ h rfl rfl rfl
  | apply => exact K.judgePins (K.applyStaged h)
  | clear => exact K.servicePins K.clearPart s

/-- Every event reaches the directory through its reactions, its edits and its emptied positions. -/
theorem KeptByDirectory.keptByEvents : KeptByEvents P where
  outside := fun s _ _ _ h => K.same s _ h rfl rfl rfl
  reset := K.vacant _ (fun i => Directory.get_empty i) rfl
  request := fun _ _ h ht => K.request h ht
  bit := fun _ _ h => K.withEngine h _ _
  frame := fun _ l w h _ hw => K.takeFrame (K.withEngine h l _) w hw
  query := fun s l w h hq => K.takeFrame h w ((queriedInFlight_iff s l w).mp hq).2.2
  receiveError := fun _ l kind h _ => K.judgePins (K.withCounts (K.noteError (K.withEngine h l _) l kind) l _ _)
  selection := fun _ _ a h _ => K.copyFrame h a
  success := fun _ l a h _ => K.judgePins (K.ended (K.withCounts (K.withEngine h l _) l _ _) a .success)
  loss := fun _ l a _ h _ => K.judgePins (K.ended (K.withEngine h l _) a .loss)
  transmitError := fun _ _ kind a h _ _ => K.judgePins (K.transmitErrorOn h kind a)
  idleSequence := fun _ _ h _ => K.judgePins (K.idleSequenceOn h)
  period := fun _ l h _ => K.withCycle h l _
  watch := fun _ _ h _ => K.judgePins (K.watchExpires h)
  window := fun s _ h _ => K.same s _ h rfl rfl rfl

end

end Sys2Proof.Machine

/-! PROOFS. The duplicate guard and the change queue at every step (R7, R11, R26, R157 to R160). -/

namespace Sys2Proof.Machine

open Sys2Proof.Safety

/-! ### What no reaction and no request changes -/

/-- Two entries with the same sides (R3). -/
structure SameSides (e x : Entry) : Prop where
  kind : x.kind = e.kind
  tag : x.tag = e.tag
  mask : x.mask = e.mask
  outTag : x.outTag = e.outTag

/-- Two entries of one identity: the sides, NOTIFY and the causes are the same. -/
structure SameIdentity (e x : Entry) : Prop extends SameSides e x where
  notify : x.notify = e.notify
  causes : x.causes = e.causes

theorem SameIdentity.refl (e : Entry) : SameIdentity e e := ⟨⟨rfl, rfl, rfl, rfl⟩, rfl, rfl⟩

theorem sample_identity (e : Entry) (mode : CycleMode) : SameIdentity e (e.sample mode) := by
  unfold Entry.sample
  split <;> exact ⟨⟨rfl, rfl, rfl, rfl⟩, rfl, rfl⟩

theorem accept_identity (e : Entry) (v : Value) (stamp : Option (BitVec 4)) :
    SameIdentity e (e.accept v stamp).entry := by
  unfold Entry.accept
  dsimp only
  (repeat' split) <;> exact ⟨⟨rfl, rfl, rfl, rfl⟩, rfl, rfl⟩

theorem ageing_identity (e : Entry) : SameIdentity e e.ageing.entry := by
  unfold Entry.ageing
  dsimp only
  split <;> exact ⟨⟨rfl, rfl, rfl, rfl⟩, rfl, rfl⟩

theorem atBoundary_identity (e : Entry) (number : BitVec 4) : SameIdentity e (e.atBoundary number) := by
  have h : SameIdentity e (if e.samples then e.sample .beaconed else e) := by
    split
    · exact sample_identity e _
    · exact ⟨⟨rfl, rfl, rfl, rfl⟩, rfl, rfl⟩
  unfold Entry.atBoundary
  generalize (if e.samples then e.sample .beaconed else e) = x at h
  obtain ⟨⟨h1, h2, h3, h4⟩, h5, h6⟩ := h
  dsimp only
  split <;> exact ⟨⟨h1, h2, h3, h4⟩, h5, h6⟩

theorem outcome_identity (e : Entry) (l : LineId) (a : Attempt) (x : Ending) (stamp : Option (BitVec 4)) :
    SameIdentity e ((e.landed l).outcome a x stamp).entry := by
  unfold Entry.outcome
  split
  · unfold Entry.publishSuccess
    (repeat' split) <;> exact ⟨⟨rfl, rfl, rfl, rfl⟩, rfl, rfl⟩
  · exact ⟨⟨rfl, rfl, rfl, rfl⟩, rfl, rfl⟩
  · exact ⟨⟨rfl, rfl, rfl, rfl⟩, rfl, rfl⟩

theorem Reacts.identity {e : Entry} {r : Reaction} (h : Reacts e r) : SameIdentity e r.entry := by
  cases h with
  | accept v stamp => exact accept_identity e v stamp
  | ageing => exact ageing_identity e
  | boundary number => exact atBoundary_identity e number
  | sample => exact sample_identity e _
  | _ => exact ⟨⟨rfl, rfl, rfl, rfl⟩, rfl, rfl⟩

theorem EntryEdit.identity {m : CycleMode} {e x : Entry} (h : EntryEdit m e x) : SameIdentity e x := by
  cases h with
  | stage v =>
    unfold Entry.stage
    dsimp only
    split
    · obtain ⟨⟨h1, h2, h3, h4⟩, h5, h6⟩ := sample_identity { e with state := .live, staged := some v } .free
      exact ⟨⟨h1, h2, h3, h4⟩, h5, h6⟩
    · exact ⟨⟨rfl, rfl, rfl, rfl⟩, rfl, rfl⟩
  | unhold =>
    unfold Entry.unhold
    dsimp only
    split
    · obtain ⟨⟨h1, h2, h3, h4⟩, h5, h6⟩ := sample_identity { e with held := false } .free
      exact ⟨⟨h1, h2, h3, h4⟩, h5, h6⟩
    · exact ⟨⟨rfl, rfl, rfl, rfl⟩, rfl, rfl⟩
  | _ => exact ⟨⟨rfl, rfl, rfl, rfl⟩, rfl, rfl⟩

/-! ### The duplicate guard -/

theorem clash_comm (m : BankMap) (x y : Index × Entry) : clash m x y = clash m y x := by
  have hside : ∀ {α : Type} [BEq α] [LawfulBEq α] (p q : Option α), (p.isSome && p == q) = (q.isSome && q == p) := by
    intro α _ _ p q
    cases p <;> cases q <;> simp [Bool.beq_comm]
  unfold clash
  rw [hside, hside (publishingSide m x.1 x.2)]

theorem noClash_iff (m : BankMap) (xs : List (Index × Entry)) :
    noClash m xs = true ↔ xs.Pairwise fun x y => clash m x y = false := by
  induction xs with
  | nil => simp [noClash]
  | cons x rest ih => simp [noClash, ih]

theorem Directory.occupied_nodup (d : Directory) : d.occupied.Nodup := by
  unfold Directory.occupied
  refine (List.nodup_finRange 64).filterMap fun i j x hi hj => ?_
  obtain ⟨_, _, rfl⟩ := Option.map_eq_some_iff.mp hi
  obtain ⟨_, _, hx⟩ := Option.map_eq_some_iff.mp hj
  exact (Prod.mk.inj hx).1.symm

/-- R26: the guard, position by position. -/
theorem guardHolds_iff (m : BankMap) (d : Directory) :
    guardHolds m d = true ↔
      ∀ i j x y, d.get i = some x → d.get j = some y → i ≠ j → clash m (i, x) (j, y) = false := by
  unfold guardHolds
  rw [noClash_iff]
  constructor
  · intro h i j x y hi hj hne
    have hsymm : Std.Symm fun x y : Index × Entry => clash m x y = false := ⟨fun a b hab => clash_comm m a b ▸ hab⟩
    exact h.forall ((d.mem_occupied i x).mpr hi) ((d.mem_occupied j y).mpr hj) fun heq => hne (Prod.mk.inj heq).1
  · intro h
    refine d.occupied_nodup.pairwise_of_forall_ne fun x hx y hy hne => ?_
    obtain ⟨i, e⟩ := x
    obtain ⟨j, z⟩ := y
    rw [d.mem_occupied] at hx hy
    refine h i j e z hx hy fun hij => hne ?_
    subst hij
    rw [hx] at hy
    cases hy
    rfl

/-- The guard sees only the sides of an entry. -/
theorem SameSides.clash {e x y : Entry} {m : BankMap} {i : Index} (h : SameSides e x) (j : Index) :
    clash m (i, x) (j, y) = clash m (i, e) (j, y) := by
  have hr : receivingSide m i x = receivingSide m i e := by simp only [receivingSide, h.kind, h.tag, h.mask]
  have hp : publishingSide m i x = publishingSide m i e := by simp only [publishingSide, h.kind, h.tag, h.outTag]
  simp only [Machine.clash, hr, hp]

theorem SameSides.refl (e : Entry) : SameSides e e := ⟨rfl, rfl, rfl, rfl⟩

/-- The guard holds of a directory whose entries all have the sides of one that was there. -/
theorem guardHolds_of_sides {m : BankMap} {d c : Directory} (h : guardHolds m d = true)
    (hc : ∀ i x, c.get i = some x → ∃ e, d.get i = some e ∧ SameSides e x) : guardHolds m c = true := by
  rw [guardHolds_iff] at h ⊢
  intro i j x y hi hj hne
  obtain ⟨e, he, hx⟩ := hc i x hi
  obtain ⟨z, hz, hy⟩ := hc j y hj
  rw [hx.clash, clash_comm, hy.clash, clash_comm]
  exact h i j e z he hz hne

section
variable {s : State} {i : Index} {e x : Entry}

theorem guardHolds_setEntry (h : GuardHolds s) (he : s.entry i = some e) (hx : SameSides e x) :
    GuardHolds (s.setEntry i x) := by
  refine guardHolds_of_sides h fun j y hj => ?_
  have hset : (s.setEntry i x).entry j = some y := hj
  rw [State.entry_setEntry] at hset
  split at hset
  next hji =>
    cases hset
    exact ⟨e, hji ▸ he, hx⟩
  next => exact ⟨y, hset, .refl y⟩

theorem guardHolds_emptyEntry (h : GuardHolds s) : GuardHolds (s.emptyEntry i) := by
  refine guardHolds_of_sides h fun j y hj => ?_
  have hset : (s.emptyEntry i).entry j = some y := hj
  rw [State.entry_emptyEntry] at hset
  split at hset
  · cases hset
  · exact ⟨y, hset, .refl y⟩

/-- Causes leave an entry's sides. -/
theorem result_sides {r : Reaction} (hi : SameSides e r.entry) : SameSides e (r.result e) := by
  unfold Reaction.result
  split
  · exact hi
  · exact ⟨hi.kind, hi.tag, hi.mask, hi.outTag⟩

theorem guardHolds_react {f : Index → Entry → Reaction} (h : GuardHolds s)
    (hf : ∀ i e, s.entry i = some e → SameSides e (f i e).entry) : GuardHolds (s.react f) := by
  refine guardHolds_of_sides h fun j y hj => ?_
  have hreact : (s.react f).entry j = some y := hj
  rw [State.entry_react, Option.map_eq_some_iff] at hreact
  obtain ⟨z, hz, rfl⟩ := hreact
  exact ⟨z, hz, result_sides (hf j z hz)⟩

/-- R11: CLAIM's own check is the guard at the new entry. -/
theorem guardHolds_claim (h : GuardHolds s) (hd : s.duplicates i e = false) (x : EntryState) :
    GuardHolds (s.setEntry i { e with state := x }) := by
  have hnew : ∀ j z, s.entry j = some z → clash s.applied.bankMap (i, { e with state := x }) (j, z) = false := by
    intro j z hz
    have hmem : (j, z) ∈ s.entries.occupied := (s.entries.mem_occupied j z).mpr hz
    have hside : SameSides e { e with state := x } := ⟨rfl, rfl, rfl, rfl⟩
    rw [hside.clash]
    exact Bool.eq_false_iff.mpr (List.any_eq_false.mp hd _ hmem)
  have hold := (guardHolds_iff _ _).mp h
  refine (guardHolds_iff _ _).mpr fun j k y z hj hk hne => ?_
  have hj : (s.setEntry i { e with state := x }).entry j = some y := hj
  have hk : (s.setEntry i { e with state := x }).entry k = some z := hk
  rw [State.entry_setEntry] at hj hk
  by_cases hji : j = i
  · have hki : k ≠ i := fun hki => hne (hji.trans hki.symm)
    rw [if_pos hji] at hj
    rw [if_neg hki] at hk
    cases hj
    exact hji ▸ hnew k z hk
  · rw [if_neg hji] at hj
    by_cases hki : k = i
    · rw [if_pos hki] at hk
      cases hk
      rw [clash_comm]
      exact hki ▸ hnew j y hj
    · rw [if_neg hki] at hk
      exact hold j k y z hj hk hne

theorem guardHolds_takeHead (h : GuardHolds s) (i : Index) (rest : List Index) : GuardHolds (s.takeHead i rest) := by
  unfold State.takeHead
  split
  next e he => exact guardHolds_setEntry h he ⟨rfl, rfl, rfl, rfl⟩
  next => exact h

end

theorem guardHolds_vacant {m : BankMap} {d : Directory} (h : ∀ i, d.get i = none) : guardHolds m d = true := by
  rw [guardHolds_iff]
  intro i j x y hi
  rw [h i] at hi
  cases hi

theorem guardHolds_keptByDirectory : KeptByDirectory GuardHolds where
  same := fun s t h he _ hm => by
    unfold GuardHolds
    rw [he, hm]
    exact h
  vacant := fun _ hv _ => guardHolds_vacant hv
  react := fun _ _ h hf => guardHolds_react h fun i e he => (hf i e he).identity.toSameSides
  outcome := fun _ l _ e a x stamp h he _ =>
    guardHolds_react h (reactAt_each he (outcome_identity e l a x stamp).toSameSides SameSides.refl)
  empty := fun _ _ h => guardHolds_emptyEntry h
  moved := fun _ _ _ _ h he => guardHolds_setEntry h he ⟨rfl, rfl, rfl, rfl⟩
  claim := fun _ _ _ _ h _ _ hd => guardHolds_claim h hd _
  edit := fun _ _ _ _ _ h he hx => guardHolds_setEntry h he hx.identity.toSameSides
  take := fun _ i rest h _ => guardHolds_takeHead h i rest
  banks := fun _ _ _ hm => hm

/-- Settles O55: no reaction changes a side, CLAIM checks its own entry, and a map is checked before banks move. -/
theorem duplicateGuardStands : Obligations.DuplicateGuardStands := fun _ _ h ht =>
  guardHolds_keptByDirectory.keptByEvents.step h ht

/-! ### The change queue -/

theorem CauseSet.insert_ne_nothing (c : CauseSet) (x : Cause) : c.insert x ≠ .nothing := by
  intro h
  have hx : (c.insert x).has x = CauseSet.nothing.has x := congrArg (·.has x) h
  cases x <;> cases hx

theorem CauseSet.raise_ne_nothing (c : CauseSet) (x : Cause) : c.raise x ≠ .nothing := by
  cases x with
  | committed =>
    unfold CauseSet.raise
    dsimp only
    split <;> exact CauseSet.insert_ne_nothing _ _
  | queried => exact CauseSet.insert_ne_nothing c .queried
  | superseded => exact CauseSet.insert_ne_nothing c .superseded
  | stale => exact CauseSet.insert_ne_nothing c .stale
  | freshened => exact CauseSet.insert_ne_nothing c .freshened
  | froze => exact CauseSet.insert_ne_nothing c .froze
  | thawed => exact CauseSet.insert_ne_nothing c .thawed
  | conflict => exact CauseSet.insert_ne_nothing c .conflict
  | published => exact CauseSet.insert_ne_nothing c .published

/-- R7: causes raised leave a set that is not empty. -/
theorem foldl_raise_ne_nothing (xs : List Cause) (c : CauseSet) (h : xs ≠ []) :
    xs.foldl CauseSet.raise c ≠ .nothing := by
  cases xs using List.reverseRecOn with
  | nil => exact absurd rfl h
  | append_singleton xs x =>
    rw [List.foldl_append]
    exact CauseSet.raise_ne_nothing _ x

theorem Reaction.notifies_iff (r : Reaction) (e : Entry) :
    r.notifies e = true ↔ e.notify = true ∧ e.state ≠ .retiring ∧ r.causes ≠ [] := by
  unfold Reaction.notifies
  simp [and_assoc]

/-- R158: an event hands exactly the indices of the entries that it notifies to the queue. -/
theorem State.mem_queue_react (s : State) (f : Index → Entry → Reaction) (i : Index) :
    i ∈ (s.react f).queue ↔ i ∈ s.queue ∨ ∃ e, s.entry i = some e ∧ (f i e).notifies e = true := by
  rw [State.queue_react, List.mem_append]
  unfold State.newlyQueued
  rw [List.mem_filter]
  cases he : s.entry i with
  | none => simp
  | some e => by_cases hq : i ∈ s.queue <;> simp [hq]

section
variable {s : State} {i : Index} {e x : Entry}

theorem queueAgrees_react {f : Index → Entry → Reaction} (h : QueueAgrees s)
    (hf : ∀ i e, s.entry i = some e → SameIdentity e (f i e).entry) : QueueAgrees (s.react f) where
  once := by
    rw [State.queue_react]
    refine List.Nodup.append h.once ((List.nodup_finRange 64).filter _) fun i hi hn => ?_
    unfold State.newlyQueued at hn
    rw [List.mem_filter] at hn
    cases he : s.entry i with
    | none => simp [he] at hn
    | some e => simp [he, hi] at hn
  occupied := by
    intro i hi
    rw [State.entry_react, Option.isSome_map]
    obtain hi | ⟨e, he, _⟩ := (s.mem_queue_react f i).mp hi
    · exact h.occupied i hi
    · simp [he]
  queued := by
    intro i x hx
    rw [State.entry_react, Option.map_eq_some_iff] at hx
    obtain ⟨e, he, rfl⟩ := hx
    have hid := hf i e he
    have hold := h.queued i e he
    rw [State.mem_queue_react, hold]
    unfold Reaction.result
    by_cases hr : e.state = .retiring
    · rw [if_pos hr, hid.notify, hid.causes]
      have hnot : ∀ y, s.entry i = some y → ¬ (f i y).notifies y = true := by
        intro y hy hn
        rw [he] at hy
        cases hy
        exact (((f i e).notifies_iff e).mp hn).2.1 hr
      constructor
      · rintro (hn | ⟨y, hy, hn⟩)
        · exact hn
        · exact absurd hn (hnot y hy)
      · exact .inl
    · rw [if_neg hr]
      dsimp only
      rw [hid.notify, hid.causes]
      constructor
      · rintro (⟨hn, hc⟩ | ⟨y, hy, hn⟩)
        · refine ⟨hn, ?_⟩
          by_cases hnil : (f i e).causes = []
          · rw [hnil]
            exact hc
          · exact foldl_raise_ne_nothing _ _ hnil
        · rw [he] at hy
          cases hy
          obtain ⟨hn, _, hnil⟩ := ((f i e).notifies_iff e).mp hn
          exact ⟨hn, foldl_raise_ne_nothing _ _ hnil⟩
      · rintro ⟨hn, hc⟩
        by_cases hnil : (f i e).causes = []
        · rw [hnil] at hc
          exact .inl ⟨hn, hc⟩
        · exact .inr ⟨e, he, ((f i e).notifies_iff e).mpr ⟨hn, hr, hnil⟩⟩

theorem queueAgrees_setEntry (h : QueueAgrees s) (he : s.entry i = some e) (hn : x.notify = e.notify)
    (hc : x.causes = e.causes) : QueueAgrees (s.setEntry i x) where
  once := h.once
  occupied := by
    intro j hj
    rw [State.entry_setEntry]
    split
    · rfl
    · exact h.occupied j hj
  queued := by
    intro j y hy
    rw [State.entry_setEntry] at hy
    split at hy
    next hji =>
      cases hy
      rw [hn, hc]
      exact h.queued j e (hji ▸ he)
    next => exact h.queued j y hy

theorem queueAgrees_emptyEntry (h : QueueAgrees s) : QueueAgrees (s.emptyEntry i) where
  once := h.once.filter _
  occupied := by
    intro j hj
    obtain ⟨hj, hne⟩ := List.mem_filter.mp hj
    rw [State.entry_emptyEntry, if_neg (bne_iff_ne.mp hne)]
    exact h.occupied j hj
  queued := by
    intro j y hy
    rw [State.entry_emptyEntry] at hy
    split at hy
    · cases hy
    next hne =>
      have hmem : j ∈ (s.emptyEntry i).queue ↔ j ∈ s.queue := by
        simp [State.emptyEntry, hne]
      rw [hmem]
      exact h.queued j y hy

/-- R12: a new entry has no cause, and its position was not queued. -/
theorem queueAgrees_claim (h : QueueAgrees s) (hi : s.entry i = none) (hc : x.causes = .nothing) :
    QueueAgrees (s.setEntry i x) where
  once := h.once
  occupied := by
    intro j hj
    rw [State.entry_setEntry]
    split
    · rfl
    · exact h.occupied j hj
  queued := by
    intro j y hy
    rw [State.entry_setEntry] at hy
    split at hy
    next hji =>
      cases hy
      have hout : j ∉ (s.setEntry i x).queue := fun hj => by
        have := h.occupied j hj
        rw [hji, hi] at this
        cases this
      exact ⟨fun hj => absurd hj hout, fun hn => absurd hc hn.2⟩
    next => exact h.queued j y hy

/-- R159: TAKE empties the cause set of the head that it removes. -/
theorem queueAgrees_takeHead {rest : List Index} (h : QueueAgrees s) (hq : s.queue = i :: rest) :
    QueueAgrees (s.takeHead i rest) := by
  have hocc := h.occupied i (by rw [hq]; exact List.mem_cons_self)
  obtain ⟨e, he⟩ := Option.isSome_iff_exists.mp hocc
  have honce := h.once
  rw [hq, List.nodup_cons] at honce
  have hmem : ∀ j, j ≠ i → (j ∈ rest ↔ j ∈ s.queue) := fun j hj => by rw [hq, List.mem_cons]; simp [hj]
  unfold State.takeHead
  rw [he]
  refine ⟨honce.2, fun j hj => ?_, fun j y hy => ?_⟩
  · have hj : j ∈ rest := hj
    rw [State.entry_withQueue, State.entry_setEntry]
    split
    · rfl
    next hne => exact h.occupied j ((hmem j hne).mp hj)
  · rw [State.entry_withQueue, State.entry_setEntry] at hy
    show j ∈ rest ↔ _
    split at hy
    next hji =>
      cases hy
      rw [hji]
      exact ⟨fun hj => absurd hj honce.1, fun hn => absurd rfl hn.2⟩
    next hne => exact (hmem j hne).trans (h.queued j y hy)

end

theorem claimedEntry_causes {op : ClaimOperands} {e : Entry} (h : claimedEntry op = some e) : e.causes = .nothing := by
  unfold claimedEntry at h
  dsimp only at h
  (repeat' split at h) <;> cases h <;> rfl

theorem queueAgrees_keptByDirectory : KeptByDirectory QueueAgrees where
  same := fun s t h he hq _ => by
    have hentry : ∀ i, t.entry i = s.entry i := fun i => by unfold State.entry; rw [he]
    refine ⟨hq ▸ h.once, fun i hi => ?_, fun i e hi => ?_⟩
    · rw [hentry]
      exact h.occupied i (hq ▸ hi)
    · rw [hentry] at hi
      rw [hq]
      exact h.queued i e hi
  vacant := fun s hv hq => by
    refine ⟨by rw [hq]; exact List.nodup_nil, fun i hi => ?_, fun i e hi => ?_⟩
    · rw [hq] at hi
      cases hi
    · rw [hv i] at hi
      cases hi
  react := fun _ _ h hf => queueAgrees_react h fun i e he => (hf i e he).identity
  outcome := fun _ l _ e a x stamp h he _ =>
    queueAgrees_react h (reactAt_each he (outcome_identity e l a x stamp) SameIdentity.refl)
  empty := fun _ _ h => queueAgrees_emptyEntry h
  moved := fun _ _ _ _ h he => queueAgrees_setEntry h he rfl rfl
  claim := fun _ _ _ _ h he hi _ => by
    have hnone := claimedEntry_causes he
    exact queueAgrees_claim h hi hnone
  edit := fun _ _ _ _ _ h he hx => queueAgrees_setEntry h he hx.identity.notify hx.identity.causes
  take := fun _ _ _ h hq => queueAgrees_takeHead h hq
  banks := fun _ _ h _ => ⟨h.once, h.occupied, h.queued⟩

/-- Settles O56, by what an event hands to the queue and what TAKE and an emptied position remove. -/
theorem queueHoldsNotified : Obligations.QueueHoldsNotified := fun _ _ h ht =>
  queueAgrees_keptByDirectory.keptByEvents.step h ht

end Sys2Proof.Machine

/-! PROOFS. The fields of every entry stay in their ranges at every step (R4, R5, R9, R33 to R35, R38, R39, R60, R75). -/

namespace Sys2Proof.Machine

open Sys2Proof.Safety

/-! ### Fields that no range speaks of -/

section
variable {e : Entry} (h : EntryFits e)
include h

theorem fits_inFlight (x : PerLine Bool) : EntryFits { e with inFlight := x } := { h with }

theorem fits_causes (c : CauseSet) : EntryFits { e with causes := c } := { h with }

/-- R73: the publish-pending flag may rise where the publishing side of an entry that is not SPENT stands. -/
theorem fits_publishPending (hk : e.kind ≠ .input) (hs : e.state ≠ .spent) (b : Bool) :
    EntryFits { e with publishPending := b } :=
  { h with
    spent := fun hx => absurd hx hs
    input := fun hx => absurd hx hk }

/-- R14: a RETIRING entry keeps its fields. -/
theorem fits_retiring : EntryFits { e with state := .retiring } :=
  { h with
    state := by dsimp only; split <;> simp
    spent := fun hx => nomatch hx
    candidate := fun c hc => by
      obtain ⟨hpos, hlt, hv, _⟩ := h.candidate c hc
      exact ⟨hpos, hlt, hv, fun hx => nomatch hx⟩
    stale := fun hx => nomatch hx
    fresh := fun _ hx => nomatch hx }

theorem fits_held (hk : e.kind ≠ .input) : EntryFits { e with held := true } :=
  { h with input := fun hx => absurd hx hk }

theorem fits_released : EntryFits { e with held := false } :=
  { h with input := fun hx => ⟨(h.input hx).1, rfl⟩ }

theorem fits_askPending (hk : e.kind ≠ .output) (b : Bool) : EntryFits { e with askPending := b } :=
  { h with output := fun hx => absurd hx hk }

/-! ### Publishing entries -/

/-- R59, R60: sampling of a LIVE OUTPUT entry. -/
theorem fits_sample (hk : e.kind = .output) (hs : e.state = .live) (mode : CycleMode) : EntryFits (e.sample mode) := by
  unfold Entry.sample
  split
  next => exact h
  next v hv =>
    obtain ⟨_, hstaged, hcandidate⟩ := h.values
    exact
      { h with
        spent := fun hx => by rw [hs] at hx; cases hx
        values := ⟨fun x hx => by cases hx; exact hstaged v hv, (fun _ hx => nomatch hx), hcandidate⟩
        receiving := fun hx => absurd hk hx
        candidate := fun c hc => by
          rw [(h.output hk).1] at hc
          cases hc
        input := fun hx => by rw [hk] at hx; cases hx }

theorem fits_samples (hs : e.samples = true) (mode : CycleMode) : EntryFits (e.sample mode) := by
  unfold Entry.samples at hs
  simp only [Bool.and_eq_true, beq_iff_eq] at hs
  exact fits_sample h hs.1.1 hs.1.2 mode

/-- R57, R58: SET stages a value and makes a SPENT entry LIVE. -/
theorem fits_stage {v : Value} (hv : v.length ≤ 8) (hk : e.kind = .output) (mode : CycleMode) :
    EntryFits (e.stage v mode) := by
  obtain ⟨hvalue, _, hcandidate⟩ := h.values
  have hstaged : EntryFits { e with state := .live, staged := some v } :=
    { h with
      state := by dsimp only; rw [if_pos hk]; simp
      spent := fun hx => nomatch hx
      values := ⟨hvalue, fun x hx => by cases hx; exact hv, hcandidate⟩
      receiving := fun hx => absurd hk hx
      candidate := fun c hc => by
        obtain ⟨hnone, _⟩ := h.output hk
        rw [hnone] at hc
        cases hc
      stale := fun hx => nomatch hx
      fresh := fun hx => absurd hk hx }
  unfold Entry.stage
  dsimp only
  split
  · exact fits_sample hstaged hk rfl _
  · exact hstaged

theorem fits_unhold (mode : CycleMode) : EntryFits (e.unhold mode) := by
  have hreleased := fits_released h
  unfold Entry.unhold
  dsimp only
  split
  next hs =>
    simp only [Bool.and_eq_true] at hs
    exact fits_samples hreleased hs.1.2 _
  next => exact hreleased

/-- R61, R65: sampling and schedule at a boundary. -/
theorem fits_atBoundary (number : BitVec 4) : EntryFits (e.atBoundary number) := by
  have hsampled : EntryFits (if e.samples then e.sample .beaconed else e) := by
    split
    next hs => exact fits_samples h hs _
    next => exact h
  unfold Entry.atBoundary
  generalize (if e.samples then e.sample .beaconed else e) = x at hsampled
  dsimp only
  split
  next hx =>
    unfold Entry.scheduled at hx
    simp only [Bool.and_eq_true, beq_iff_eq] at hx
    obtain ⟨⟨⟨⟨hkind, hstate⟩, _⟩, _⟩, _⟩ := hx
    exact fits_publishPending hsampled (by rw [hkind]; simp) (by rw [hstate]; simp) true
  next => exact hsampled

/-- R74, R75: a successful publication; a ONE-SHOT OUTPUT entry is SPENT. -/
theorem fits_publishSuccess (f : Frame) (stamp : Option (BitVec 4)) :
    EntryFits (e.publishSuccess f stamp).entry := by
  unfold Entry.publishSuccess
  split
  next hk =>
    have hinput : e.kind ≠ .input := by rw [hk]; simp
    split
    next hone =>
      exact
        { h with
          state := by dsimp only; rw [if_pos hk]; simp
          spent := fun _ => ⟨hone, rfl⟩
          candidate := fun c hc => by
            rw [(h.output hk).1] at hc
            cases hc
          stale := fun hx => nomatch hx
          fresh := fun hx => absurd hk hx
          input := fun hx => absurd hx hinput }
    next hone =>
      exact
        { h with
          spent := fun hx => absurd (h.spent hx).1 hone
          input := fun hx => absurd hx hinput }
  next hk =>
    have hspent : e.state ≠ .spent := by
      have hstate := h.state
      rwa [if_neg (by rw [hk]; simp)] at hstate
    exact fits_publishPending h (by rw [hk]; simp) hspent _
  next => exact h

/-! ### Receiving entries -/

/-- R33: the run of a candidate never passes CONFIRM. -/
theorem nextCandidate_run (hk : e.kind ≠ .output) (v : Value) :
    1 ≤ (e.nextCandidate v).run ∧ (e.nextCandidate v).run ≤ e.confirm := by
  obtain ⟨hconfirm, _⟩ := h.receiving hk
  unfold Entry.nextCandidate
  split
  next c hc =>
    obtain ⟨_, hlt, _⟩ := h.candidate c hc
    split <;> dsimp only <;> omega
  next => exact ⟨le_refl 1, hconfirm⟩

omit h in
theorem Entry.nextCandidate_value (e : Entry) (v : Value) : (e.nextCandidate v).value = v := by
  unfold Entry.nextCandidate
  split
  · split <;> rfl
  · rfl

/-- R31, R34, R35: an accepted reception leaves a LIVE entry of age 0. -/
theorem fits_refreshed (hk : e.kind ≠ .output) : EntryFits { e with age := 0, state := .live } :=
  { h with
    state := by dsimp only; rw [if_neg hk]; simp
    spent := fun hx => nomatch hx
    candidate := fun c hc => by
      obtain ⟨hpos, hlt, hv, _⟩ := h.candidate c hc
      exact ⟨hpos, hlt, hv, fun hx => nomatch hx⟩
    age := ⟨Nat.zero_le _, h.age.2⟩
    stale := fun hx => nomatch hx
    fresh := fun _ _ hr => Nat.pos_of_ne_zero hr }

theorem fits_noCandidate : EntryFits { e with candidate := none } := by
  obtain ⟨hvalue, hstaged, _⟩ := h.values
  exact
    { h with
      values := ⟨hvalue, hstaged, (fun _ hc => nomatch hc)⟩
      candidate := fun _ hc => nomatch hc
      output := fun hx => ⟨rfl, (h.output hx).2⟩ }

theorem fits_accept {v : Value} (hv : v.length ≤ 8) (stamp : Option (BitVec 4)) (hk : e.kind ≠ .output) :
    EntryFits (e.accept v stamp).entry := by
  have hfresh := fits_refreshed h hk
  obtain ⟨hvalue, hstaged, _⟩ := h.values
  unfold Entry.accept
  dsimp only
  split
  next => exact fits_noCandidate hfresh
  next hchanged =>
    split
    next =>
      exact
        { hfresh with
          spent := fun hx => nomatch hx
          values := ⟨fun x hx => by cases hx; exact hv, hstaged, fun _ hc => nomatch hc⟩
          candidate := fun _ hc => nomatch hc
          output := fun hx => absurd hx hk
          input := fun hx => by simp [h.input hx, show e.kind = .input from hx] }
    next hrun =>
      have hnext := nextCandidate_run h hk v
      exact
        { hfresh with
          values := ⟨hvalue, hstaged, fun c hc => by cases hc; rwa [e.nextCandidate_value v]⟩
          candidate := fun c hc => by
            cases hc
            refine ⟨hnext.1, lt_of_le_of_ne hnext.2 hrun, ?_, fun hx => nomatch hx⟩
            rwa [e.nextCandidate_value v]
          output := fun hx => absurd hx hk }

/-- R38, R39: an age stays below REFRESH while the entry is LIVE. -/
theorem fits_ageing (hk : e.kind ≠ .output) : EntryFits e.ageing.entry := by
  obtain ⟨hage, hrefresh⟩ := h.age
  unfold Entry.ageing
  dsimp only
  split
  next hx =>
    obtain ⟨_, hr, haged⟩ := hx
    exact
      { h with
        state := by dsimp only; rw [if_neg hk]; simp
        spent := fun hx => nomatch hx
        candidate := fun c hc => by
          obtain ⟨hpos, hlt, hv, _⟩ := h.candidate c hc
          exact ⟨hpos, hlt, hv, fun hx => nomatch hx⟩
        age := ⟨Nat.min_le_right _ _, hrefresh⟩
        stale := fun _ => ⟨hr, haged.ge⟩
        fresh := fun _ hx => nomatch hx }
  next hx =>
    exact
      { h with
        age := ⟨Nat.min_le_right _ _, hrefresh⟩
        stale := fun hstale => by
          obtain ⟨hr, hle⟩ := h.stale hstale
          exact ⟨hr, by dsimp only; omega⟩
        fresh := fun _ hlive hr => by
          have hold := h.fresh hk hlive hr
          have hne : ¬ min (e.age + 1) Config.ageCeiling = e.refresh := fun haged => hx ⟨hlive, hr, haged⟩
          dsimp only
          omega }

theorem fits_frozen (hk : e.kind ≠ .output) : EntryFits { e with state := .frozen, candidate := none } :=
  { fits_noCandidate h with
    state := by dsimp only; rw [if_neg hk]; simp
    spent := fun hx => nomatch hx
    candidate := fun _ hc => nomatch hc
    stale := fun hx => nomatch hx
    fresh := fun _ hx => nomatch hx }

theorem fits_thawed (hk : e.kind ≠ .output) : EntryFits { e with state := .live, age := 0, candidate := none } :=
  { fits_noCandidate h with
    state := by dsimp only; rw [if_neg hk]; simp
    spent := fun hx => nomatch hx
    candidate := fun _ hc => nomatch hc
    age := ⟨Nat.zero_le _, h.age.2⟩
    stale := fun hx => nomatch hx
    fresh := fun _ _ hr => Nat.pos_of_ne_zero hr }

/-! ### Reactions and edits -/

theorem fits_outcome (l : LineId) (a : Attempt) (x : Ending) (stamp : Option (BitVec 4)) :
    EntryFits ((e.landed l).outcome a x stamp).entry := by
  have hlanded : EntryFits (e.landed l) := fits_inFlight h _
  unfold Entry.outcome
  split
  · exact fits_publishSuccess hlanded a.frame stamp
  · exact
      { hlanded with
        output := fun hx => by
          obtain ⟨hc, hf, hr, _⟩ := hlanded.output hx
          exact ⟨hc, hf, hr, rfl⟩ }
  · exact hlanded

theorem Reacts.fits {r : Reaction} (hr : Reacts e r) : EntryFits r.entry := by
  cases hr with
  | unchanged => exact h
  | accept v stamp hv hk => exact fits_accept h hv stamp hk
  | ageing hk => exact fits_ageing h hk
  | freeze hk => exact fits_frozen h hk
  | thaw hk => exact fits_thawed h hk
  | boundary number => exact fits_atBoundary h number
  | sample hs => exact fits_samples h hs _
  | queried hk hs => exact fits_publishPending h hk (by obtain hs | hs | hs := hs <;> rw [hs] <;> simp) true
  | conflict => exact h

theorem EntryEdit.fits {m : CycleMode} {x : Entry} (hx : EntryEdit m e x) : EntryFits x := by
  cases hx with
  | retire => exact fits_retiring h
  | stage v hv hk => exact fits_stage h hv hk m
  | publish hk _ hs => exact fits_publishPending h hk hs true
  | hold hk => exact fits_held h hk
  | unhold => exact fits_unhold h m
  | ask hk => exact fits_askPending h hk true

end

/-! ### CLAIM -/

theorem fits_claimed {op : ClaimOperands} {e : Entry} (h : claimedEntry op = some e) :
    EntryFits e ∧ e.state = .live ∧ e.candidate = none := by
  have hbyte : ∀ b : Byte, b.toNat ≤ Config.ageCeiling := fun b => Nat.le_of_lt_succ b.isLt
  unfold claimedEntry at h
  dsimp only at h
  split at h
  next => cases h
  next htag =>
    have htag : ¬ tagOperand op.tag = 0#12 := htag
    split at h
    next => cases h
    next =>
      split at h
      next hconfirm =>
        simp only [Bool.and_eq_true, decide_eq_true_eq] at hconfirm
        cases h
        refine ⟨?_, rfl, rfl⟩
        constructor <;> simp [Entry.blank, htag, hconfirm, hbyte]
        omega
      next => cases h
    next =>
      split at h
      next => cases h
      next =>
        split at h
        next hschedule =>
          cases h
          refine ⟨?_, rfl, rfl⟩
          constructor <;> simp [Entry.blank, htag, hschedule]
        next => cases h
      next m hm _ =>
        have hm : m ≠ .periodic := hm
        cases h
        refine ⟨?_, rfl, rfl⟩
        constructor <;> simp [Entry.blank, htag, hm]
    next =>
      split at h
      next hx =>
        simp only [Bool.and_eq_true, decide_eq_true_eq, bne_iff_ne] at hx
        obtain ⟨hconfirm, hout⟩ := hx
        have hout : ¬ tagOperand op.outTag = 0#12 := hout
        cases h
        refine ⟨?_, rfl, rfl⟩
        constructor <;> simp [Entry.blank, htag, hconfirm, hout, hbyte]
        omega
      next => cases h

/-- R12: a claimed entry starts LIVE, or FROZEN where it has a receiving side. -/
theorem fits_started {op : ClaimOperands} {e : Entry} (h : claimedEntry op = some e) (s : State) (i : Index) :
    EntryFits { e with state := s.initialState i e.kind } := by
  obtain ⟨hfits, hlive, hnone⟩ := fits_claimed h
  unfold State.initialState
  split
  next => exact hlive ▸ hfits
  next hx =>
    have hk : e.kind ≠ .output := fun hk => hx (.inl hk)
    have hfrozen := fits_frozen hfits hk
    rwa [← hnone] at hfrozen

/-! ### The statement -/

/-- Every entry of a state fits. -/
def EntriesFit (s : State) : Prop := ∀ i e, s.entry i = some e → EntryFits e

section
variable {s : State} {i : Index} {e x : Entry}

theorem EntriesFit.setEntry (h : EntriesFit s) (hx : EntryFits x) : EntriesFit (s.setEntry i x) := by
  intro j y hy
  rw [State.entry_setEntry] at hy
  split at hy
  · cases hy
    exact hx
  · exact h j y hy

theorem EntriesFit.emptyEntry (h : EntriesFit s) : EntriesFit (s.emptyEntry i) := by
  intro j y hy
  rw [State.entry_emptyEntry] at hy
  split at hy
  · cases hy
  · exact h j y hy

theorem EntriesFit.react {f : Index → Entry → Reaction} (h : EntriesFit s)
    (hf : ∀ i e, s.entry i = some e → EntryFits e → EntryFits (f i e).entry) : EntriesFit (s.react f) := by
  intro j y hy
  rw [State.entry_react, Option.map_eq_some_iff] at hy
  obtain ⟨z, hz, rfl⟩ := hy
  have hfits := hf j z hz (h j z hz)
  unfold Reaction.result
  split
  · exact hfits
  · exact fits_causes hfits _

theorem EntriesFit.takeHead (h : EntriesFit s) (rest : List Index) : EntriesFit (s.takeHead i rest) := by
  unfold State.takeHead
  split
  next e he => exact h.setEntry (fits_causes (h i e he) _)
  next => exact h

end

theorem entriesFit_keptByDirectory : KeptByDirectory EntriesFit where
  same := fun s t h he _ _ i e hi => by
    unfold State.entry at hi
    rw [he] at hi
    exact h i e hi
  vacant := fun s hv _ i e hi => by
    rw [hv i] at hi
    cases hi
  react := fun _ _ h hf => h.react fun i e he hfits => Reacts.fits hfits (hf i e he)
  outcome := fun _ l _ e a x stamp h he _ => h.react <|
    reactAt_each (Q := fun y z => EntryFits y → EntryFits z) he (fun hfits => fits_outcome hfits l a x stamp) fun _ => id
  empty := fun _ _ h => h.emptyEntry
  moved := fun _ i e x h he => h.setEntry (fits_inFlight (h i e he) x)
  claim := fun s _ i _ h he _ _ => h.setEntry (fits_started he s i)
  edit := fun _ i e _ _ h he hx => h.setEntry (hx.fits (h i e he))
  take := fun _ _ rest h _ => h.takeHead rest
  banks := fun _ _ h _ => h

/-- Settles O53: every reaction and every edit keeps the ranges of its entry, and CLAIM starts in range. -/
theorem entriesStayFit : Obligations.EntriesStayFit := fun _ _ h ht =>
  entriesFit_keptByDirectory.keptByEvents.step h ht

end Sys2Proof.Machine

/-! PROOFS. Directory and controllers agree on what is in flight at every step (R6, R15, R16, R132, R134 to R136). -/

namespace Sys2Proof.Machine

open Sys2Proof.Safety

/-- The frames in flight, line by line. -/
def State.flights (s : State) (l : LineId) : Option Attempt := (s.line.get l).attempt

/-- The directory's half of the agreement: its entries and the frames `att` that are in flight. -/
structure DirectoryFlies (s : State) (att : LineId → Option Attempt) : Prop where
  entry : ∀ i e l, s.entry i = some e → (e.inFlight.get l = true ↔ ownerEntry (att l) = some i)
  occupied : ∀ i l, ownerEntry (att l) = some i → (s.entry i).isSome = true
  retiring : ∀ i e, s.entry i = some e → e.state = .retiring → e.grounded = false
  onLine : ∀ l a, att l = some a → OwnerOnLine s l a ∧ frameOfOwner a = true

/-- Directory and controllers agree: the directory's half, and only a line that takes part has a frame in flight. -/
structure Flying (s : State) : Prop where
  flies : DirectoryFlies s s.flights
  partakes : ∀ l, (s.line.get l).attempt.isSome = true → s.participates l = true

theorem flying_iff (s : State) : Flying s ↔ FlightAgrees s :=
  ⟨fun h => ⟨h.flies.entry, h.flies.occupied, h.flies.retiring, h.flies.onLine, h.partakes⟩,
    fun h => ⟨⟨h.entry, h.occupied, h.retiring, h.onLine⟩, h.partakes⟩⟩

/-! ### What leaves the frames in flight alone -/

/-- Two entries alike in all that a frame in flight needs. -/
structure SameFlight (e x : Entry) : Prop where
  kind : x.kind = e.kind
  inFlight : x.inFlight = e.inFlight
  retiring : x.state = .retiring → e.state = .retiring ∨ e.grounded = false

theorem SameFlight.refl (e : Entry) : SameFlight e e := ⟨rfl, rfl, .inl⟩

theorem SameFlight.grounded {e x : Entry} (h : SameFlight e x) : x.grounded = e.grounded := by
  unfold Entry.grounded
  rw [h.inFlight]

section
variable {s t : State} {att : LineId → Option Attempt} {i : Index} {e x : Entry} {l : LineId} {a : Attempt}

theorem State.home_of_bankMap (hb : t.applied.bankMap = s.applied.bankMap) (i : Index) : t.home i = s.home i := by
  unfold State.home
  rw [hb]

/-- An owner stays on its line while the entries keep their kinds. -/
theorem ownerOnLine_of_kinds (h : OwnerOnLine s l a) (hb : t.applied.bankMap = s.applied.bankMap)
    (hkind : ∀ i e, ownerEntry (some a) = some i → s.entry i = some e → ∃ x, t.entry i = some x ∧ x.kind = e.kind) :
    OwnerOnLine t l a := by
  obtain ⟨owner, frame⟩ := a
  cases owner with
  | beacon => trivial
  | publish i =>
    obtain ⟨e, he, hside⟩ := h
    obtain ⟨x, hx, hk⟩ := hkind i e rfl he
    refine ⟨x, hx, ?_⟩
    rwa [hk, State.home_of_bankMap hb]
  | ask i =>
    obtain ⟨e, he, hside⟩ := h
    obtain ⟨x, hx, hk⟩ := hkind i e rfl he
    refine ⟨x, hx, ?_⟩
    rwa [hk, State.home_of_bankMap hb]

theorem DirectoryFlies.of_sameFlight (h : DirectoryFlies s att) (hb : t.applied.bankMap = s.applied.bankMap)
    (hback : ∀ i x, t.entry i = some x → ∃ e, s.entry i = some e ∧ SameFlight e x)
    (hforth : ∀ i e, s.entry i = some e → ∃ x, t.entry i = some x ∧ SameFlight e x) : DirectoryFlies t att where
  entry := by
    intro i x l hx
    obtain ⟨e, he, hsame⟩ := hback i x hx
    rw [hsame.inFlight]
    exact h.entry i e l he
  occupied := by
    intro i l hl
    obtain ⟨e, he⟩ := Option.isSome_iff_exists.mp (h.occupied i l hl)
    obtain ⟨x, hx, _⟩ := hforth i e he
    rw [hx]
    rfl
  retiring := by
    intro i x hx hs
    obtain ⟨e, he, hsame⟩ := hback i x hx
    rw [hsame.grounded]
    obtain hr | hf := hsame.retiring hs
    · exact h.retiring i e he hr
    · exact hf
  onLine := by
    intro l a ha
    obtain ⟨hline, hframe⟩ := h.onLine l a ha
    refine ⟨ownerOnLine_of_kinds hline hb fun i e _ he => ?_, hframe⟩
    obtain ⟨x, hx, hsame⟩ := hforth i e he
    exact ⟨x, hx, hsame.kind⟩

theorem DirectoryFlies.setEntry (h : DirectoryFlies s att) (he : s.entry i = some e) (hx : SameFlight e x) :
    DirectoryFlies (s.setEntry i x) att := by
  refine h.of_sameFlight rfl (fun j y hy => ?_) fun j y hy => ?_
  · rw [State.entry_setEntry] at hy
    split at hy
    next hji =>
      cases hy
      exact ⟨e, hji ▸ he, hx⟩
    next => exact ⟨y, hy, .refl y⟩
  · rw [State.entry_setEntry]
    split
    next hji =>
      rw [hji, he] at hy
      cases hy
      exact ⟨x, rfl, hx⟩
    next => exact ⟨y, hy, .refl y⟩

theorem result_sameFlight {r : Reaction} (h : SameFlight e r.entry) : SameFlight e (r.result e) := by
  unfold Reaction.result
  split
  · exact h
  · exact ⟨h.kind, h.inFlight, h.retiring⟩

theorem DirectoryFlies.react {f : Index → Entry → Reaction} (h : DirectoryFlies s att)
    (hf : ∀ i e, s.entry i = some e → SameFlight e (f i e).entry) : DirectoryFlies (s.react f) att := by
  refine h.of_sameFlight rfl (fun j y hy => ?_) fun j y hy => ?_
  · rw [State.entry_react, Option.map_eq_some_iff] at hy
    obtain ⟨z, hz, rfl⟩ := hy
    exact ⟨z, hz, result_sameFlight (hf j z hz)⟩
  · rw [State.entry_react, hy]
    exact ⟨_, rfl, result_sameFlight (hf j y hy)⟩

end

/-! ### Reactions and edits -/

theorem sample_sameFlight (e : Entry) (mode : CycleMode) : SameFlight e (e.sample mode) := by
  unfold Entry.sample
  split <;> exact ⟨rfl, rfl, .inl⟩

theorem atBoundary_sameFlight (e : Entry) (number : BitVec 4) : SameFlight e (e.atBoundary number) := by
  have h : SameFlight e (if e.samples then e.sample .beaconed else e) := by
    split
    · exact sample_sameFlight e _
    · exact .refl e
  unfold Entry.atBoundary
  generalize (if e.samples then e.sample .beaconed else e) = x at h
  dsimp only
  split
  · exact ⟨h.kind, h.inFlight, h.retiring⟩
  · exact h

theorem Reacts.sameFlight {e : Entry} {r : Reaction} (h : Reacts e r) : SameFlight e r.entry := by
  cases h with
  | accept v stamp =>
    unfold Entry.accept
    dsimp only
    (repeat' split) <;> exact ⟨rfl, rfl, fun hs => nomatch hs⟩
  | ageing =>
    unfold Entry.ageing
    dsimp only
    split
    · exact ⟨rfl, rfl, fun hs => nomatch hs⟩
    · exact ⟨rfl, rfl, .inl⟩
  | freeze => exact ⟨rfl, rfl, fun hs => nomatch hs⟩
  | thaw => exact ⟨rfl, rfl, fun hs => nomatch hs⟩
  | boundary number => exact atBoundary_sameFlight e number
  | sample => exact sample_sameFlight e _
  | _ => exact ⟨rfl, rfl, .inl⟩

theorem EntryEdit.sameFlight {m : CycleMode} {e x : Entry} (h : EntryEdit m e x) : SameFlight e x := by
  cases h with
  | retire _ hf => exact ⟨rfl, rfl, fun _ => .inr hf⟩
  | stage v =>
    have hlive : SameFlight e { e with state := .live, staged := some v } := ⟨rfl, rfl, fun hs => nomatch hs⟩
    have hsampled := sample_sameFlight { e with state := .live, staged := some v } .free
    unfold Entry.stage
    dsimp only
    split
    · refine ⟨hsampled.kind, hsampled.inFlight, fun hs => ?_⟩
      obtain hr | hg := hsampled.retiring hs
      · exact nomatch hr
      · exact .inr hg
    · exact hlive
  | unhold =>
    have hsampled := sample_sameFlight { e with held := false } .free
    unfold Entry.unhold
    dsimp only
    split
    · exact ⟨hsampled.kind, hsampled.inFlight, hsampled.retiring⟩
    · exact ⟨rfl, rfl, .inl⟩
  | _ => exact ⟨rfl, rfl, .inl⟩

theorem directoryFlies_keptByReactions (att : LineId → Option Attempt) :
    KeptByReactions fun s => DirectoryFlies s att where
  same := fun s t h he _ hb => by
    have hentry : ∀ i, t.entry i = s.entry i := fun i => by unfold State.entry; rw [he]
    exact h.of_sameFlight hb (fun i x hx => ⟨x, hentry i ▸ hx, .refl x⟩) fun i e hi => ⟨e, (hentry i).trans hi, .refl e⟩
  react := fun _ _ h hf => h.react fun i e he => (hf i e he).sameFlight

theorem DirectoryFlies.withQueue {s : State} {att : LineId → Option Attempt} {x : List Index}
    (h : DirectoryFlies s att) : DirectoryFlies (s.withQueue x) att :=
  ⟨h.entry, h.occupied, h.retiring, h.onLine⟩

/-! ### Frames that leave and land -/

section
variable {s t : State} {att : LineId → Option Attempt} {i : Index} {e x : Entry} {l : LineId} {a : Attempt}

/-- R134, R150: a frame of the part's own beacon belongs to no entry. -/
theorem DirectoryFlies.replace {o : Option Attempt} (h : DirectoryFlies s att) (hold : ownerEntry (att l) = none)
    (hnew : ownerEntry o = none) (hon : ∀ a, o = some a → OwnerOnLine s l a ∧ frameOfOwner a = true) :
    DirectoryFlies s (Function.update att l o) := by
  have howner : ∀ m, ownerEntry (Function.update att l o m) = ownerEntry (att m) := by
    intro m
    by_cases hm : m = l
    · rw [hm, Function.update_self, hnew, hold]
    · rw [Function.update_of_ne hm]
  refine ⟨fun i e m he => ?_, fun i m hm => ?_, h.retiring, fun m a ha => ?_⟩
  · rw [howner]
    exact h.entry i e m he
  · exact h.occupied i m (howner m ▸ hm)
  · by_cases hm : m = l
    · rw [hm, Function.update_self] at ha
      exact hm ▸ hon a ha
    · rw [Function.update_of_ne hm] at ha
      exact h.onLine m a ha

/-- R6: the in-flight lines of an entry with its line `l` changed, and the buffer of `l` with it. -/
theorem DirectoryFlies.place {o : Option Attempt} (h : DirectoryFlies s att) (he : s.entry i = some e)
    (hb : t.applied.bankMap = s.applied.bankMap) (hrest : ∀ j, j ≠ i → t.entry j = s.entry j)
    (hx : t.entry i = some x) (hkind : x.kind = e.kind) (hself : x.inFlight.get l = true ↔ ownerEntry o = some i)
    (hother : x.inFlight.get l.other = e.inFlight.get l.other) (hret : x.state = .retiring → x.grounded = false)
    (hold : ∀ j, j ≠ i → ownerEntry (att l) ≠ some j) (hnew : ∀ j, j ≠ i → ownerEntry o ≠ some j)
    (hon : ∀ a, o = some a → OwnerOnLine s l a ∧ frameOfOwner a = true) :
    DirectoryFlies t (Function.update att l o) := by
  have hkinds : ∀ j y, s.entry j = some y → ∃ z, t.entry j = some z ∧ z.kind = y.kind := by
    intro j y hy
    by_cases hj : j = i
    · rw [hj, he] at hy
      cases hy
      exact ⟨x, hj ▸ hx, hkind⟩
    · exact ⟨y, (hrest j hj).trans hy, rfl⟩
  refine ⟨fun j y m hy => ?_, fun j m hm => ?_, fun j y hy hs => ?_, fun m b hm => ?_⟩
  · by_cases hj : j = i
    · rw [hj, hx] at hy
      cases hy
      obtain rfl | rfl := LineId.eq_or_other l m
      · rw [Function.update_self, hj]
        exact hself
      · rw [Function.update_of_ne (LineId.other_ne l), hj, hother]
        exact h.entry i e l.other he
    · rw [hrest j hj] at hy
      by_cases hml : m = l
      · rw [hml, Function.update_self, h.entry j y l hy]
        exact iff_of_false (hold j hj) (hnew j hj)
      · rw [Function.update_of_ne hml]
        exact h.entry j y m hy
  · by_cases hj : j = i
    · rw [hj, hx]
      rfl
    · by_cases hml : m = l
      · rw [hml, Function.update_self] at hm
        exact absurd hm (hnew j hj)
      · rw [Function.update_of_ne hml] at hm
        rw [hrest j hj]
        exact h.occupied j m hm
  · by_cases hj : j = i
    · rw [hj, hx] at hy
      cases hy
      exact hret hs
    · rw [hrest j hj] at hy
      exact h.retiring j y hy hs
  · have hkept : OwnerOnLine s m b ∧ frameOfOwner b = true := by
      by_cases hml : m = l
      · rw [hml, Function.update_self] at hm
        exact hml ▸ hon b hm
      · rw [Function.update_of_ne hml] at hm
        exact h.onLine m b hm
    exact ⟨ownerOnLine_of_kinds hkept.1 hb fun j y _ hy => hkinds j y hy, hkept.2⟩

/-- R16: a RETIRING entry with nothing left in flight empties. -/
theorem DirectoryFlies.vacate (h : DirectoryFlies s att) (he : s.entry i = some e) (hg : (e.landed l).grounded = true)
    (ha : ∀ j, j ≠ i → ownerEntry (att l) ≠ some j) :
    DirectoryFlies (s.emptyEntry i) (Function.update att l none) := by
  have hfree : ∀ m, ownerEntry (Function.update att l none m) ≠ some i := by
    intro m hm
    by_cases hml : m = l
    · rw [hml, Function.update_self] at hm
      cases hm
    · rw [Function.update_of_ne hml] at hm
      have hin := (h.entry i e m he).mpr hm
      have hlanded : (e.landed l).inFlight.get m = true := by
        unfold Entry.landed
        dsimp only
        rwa [PerLine.get_set_ne _ _ _ _ hml]
      rw [(e.landed l).grounded_iff.mp hg] at hlanded
      cases m <;> cases hlanded
  have hrest : ∀ j, j ≠ i → (s.emptyEntry i).entry j = s.entry j := fun j hj => by
    rw [State.entry_emptyEntry, if_neg hj]
  have hout : ∀ j m, ownerEntry (Function.update att l none m) = some j → j ≠ i ∧ ownerEntry (att m) = some j := by
    intro j m hm
    have hj : j ≠ i := fun hj => hfree m (hj ▸ hm)
    by_cases hml : m = l
    · rw [hml, Function.update_self] at hm
      cases hm
    · rw [Function.update_of_ne hml] at hm
      exact ⟨hj, hm⟩
  have hkeep : ∀ j y, (s.emptyEntry i).entry j = some y → j ≠ i ∧ s.entry j = some y := by
    intro j y hy
    rw [State.entry_emptyEntry] at hy
    split at hy
    · cases hy
    next hj => exact ⟨hj, hy⟩
  refine ⟨fun j y m hy => ?_, fun j m hm => ?_, fun j y hy => h.retiring j y (hkeep j y hy).2, fun m b hm => ?_⟩
  · obtain ⟨hj, hy⟩ := hkeep j y hy
    by_cases hml : m = l
    · rw [hml, Function.update_self, h.entry j y l hy]
      exact iff_of_false (ha j hj) (by simp [ownerEntry])
    · rw [Function.update_of_ne hml]
      exact h.entry j y m hy
  · obtain ⟨hj, hm⟩ := hout j m hm
    rw [hrest j hj]
    exact h.occupied j m hm
  · have hm' : att m = some b := by
      by_cases hml : m = l
      · rw [hml, Function.update_self] at hm
        cases hm
      · rwa [Function.update_of_ne hml] at hm
    obtain ⟨hline, hframe⟩ := h.onLine m b hm'
    refine ⟨ownerOnLine_of_kinds hline rfl fun j y hb hy => ?_, hframe⟩
    have hj := (hout j m (by rw [hm]; exact hb)).1
    exact ⟨y, (hrest j hj).trans hy, rfl⟩

/-! ### The end of an attempt -/

theorem landed_self (e : Entry) (l : LineId) : (e.landed l).inFlight.get l = false := by
  simp [Entry.landed]

theorem landed_other (e : Entry) (l : LineId) : (e.landed l).inFlight.get l.other = e.inFlight.get l.other := by
  simp [Entry.landed]

/-- R52, R74 to R76, R82: an outcome leaves kind and in-flight lines, and makes nothing RETIRING. -/
theorem outcome_sameFlight (e : Entry) (a : Attempt) (x : Ending) (stamp : Option (BitVec 4)) :
    SameFlight e (e.outcome a x stamp).entry := by
  unfold Entry.outcome
  split
  · unfold Entry.publishSuccess
    split
    · split
      · exact ⟨rfl, rfl, fun hs => nomatch hs⟩
      · exact ⟨rfl, rfl, .inl⟩
    · exact ⟨rfl, rfl, .inl⟩
    · exact .refl e
  · exact ⟨rfl, rfl, .inl⟩
  · exact .refl e

/-- R6, R16, R136: the outcome of an entry's frame. -/
theorem DirectoryFlies.reportToEntry (h : DirectoryFlies s att) (ha : ownerEntry (att l) = some i) (x : Ending) :
    DirectoryFlies (s.reportToEntry l i a x) (Function.update att l none) := by
  obtain ⟨e, he⟩ := Option.isSome_iff_exists.mp (h.occupied i l ha)
  have hin : e.inFlight.get l = true := (h.entry i e l he).mpr ha
  have hold : ∀ j, j ≠ i → ownerEntry (att l) ≠ some j := fun j hj hj' => hj (Option.some.inj (hj'.symm.trans ha))
  have hplace : ∀ y, (s.reportToEntry l i a x).entry i = some y → SameFlight (e.landed l) y →
      (y.state = .retiring → (e.landed l).grounded = false) →
      DirectoryFlies (s.reportToEntry l i a x) (Function.update att l none) := by
    intro y hy hsame hret
    refine h.place he (by simp) (fun j hj => s.entry_reportToEntry_ne l i j a x hj) hy hsame.kind ?_ ?_ ?_ hold ?_ ?_
    · rw [hsame.inFlight, landed_self]
      simp [ownerEntry]
    · rw [hsame.inFlight, landed_other]
    · intro hs
      rw [hsame.grounded]
      exact hret hs
    · simp [ownerEntry]
    · simp
  by_cases hr : e.state = .retiring
  · have hentry := s.entry_reportToEntry_retiring l i e a x he hin hr
    by_cases hg : (e.landed l).grounded = true
    · have hempty : s.reportToEntry l i a x = s.emptyEntry i := by
        simp [State.reportToEntry, he, hin, hr, hg]
      rw [hempty]
      exact h.vacate he hg hold
    · rw [if_neg hg] at hentry
      exact hplace _ hentry (.refl _) fun _ => Bool.eq_false_iff.mpr hg
  · have hsame := result_sameFlight (outcome_sameFlight (e.landed l) a x (s.stampNow l))
    have hentry := s.entry_reportToEntry l i e a x he hin hr
    rw [Reaction.result_live _ _ hr] at hentry
    rw [Reaction.result_live _ _ (show (e.landed l).state ≠ .retiring from hr)] at hsame
    refine hplace _ hentry hsame fun hs => ?_
    obtain hr' | hg := hsame.retiring hs
    · exact absurd hr' hr
    · exact hg

/-- R136: the attempt of a line ended, reported to its owner. -/
theorem DirectoryFlies.report (h : DirectoryFlies s att) (ha : att l = some a) (x : Ending) :
    DirectoryFlies (s.report l a x) (Function.update att l none) := by
  obtain ⟨owner, frame⟩ := a
  cases owner with
  | beacon =>
    have hbare : DirectoryFlies s (Function.update att l none) :=
      h.replace (by rw [ha]; rfl) rfl fun _ hb => nomatch hb
    have K := directoryFlies_keptByReactions (Function.update att l none)
    show DirectoryFlies (s.reportToCycleUnit l _ x) _
    unfold State.reportToCycleUnit
    split
    · exact K.takeBoundary (K.withCycle hbare l _) _
    · exact hbare
  | publish i => exact h.reportToEntry (by rw [ha]; rfl) x
  | ask i => exact h.reportToEntry (by rw [ha]; rfl) x

theorem DirectoryFlies.ended (h : DirectoryFlies s att) (ha : att l = some a) (x : Ending) :
    DirectoryFlies ((s.emptyBuffer l).report l a x) (Function.update att l none) :=
  ((directoryFlies_keptByReactions att).emptyBuffer h l).report ha x

/-! ### The start of an attempt -/

theorem DirectoryFlies.launch (h : DirectoryFlies s att) (hfree : att l = none) (ha : ownerEntry (some a) = some i)
    (he : s.entry i = some e) (hon : OwnerOnLine s l a ∧ frameOfOwner a = true) :
    DirectoryFlies (s.launch l i) (Function.update att l (some a)) := by
  have hlaunch : s.launch l i = s.setEntry i (e.launched l) := by
    unfold State.launch
    rw [he]
  have hself : (e.launched l).inFlight.get l = true := by simp [Entry.launched]
  rw [hlaunch]
  refine h.place he rfl (fun j hj => by rw [State.entry_setEntry, if_neg hj])
    (x := e.launched l) (by rw [State.entry_setEntry, if_pos rfl]) rfl ?_ ?_ ?_ ?_ ?_ ?_
  · exact iff_of_true hself ha
  · simp [Entry.launched]
  · intro _
    refine Bool.eq_false_iff.mpr fun hg => ?_
    rw [(e.launched l).grounded_iff.mp hg] at hself
    cases l <;> cases hself
  · rw [hfree]
    simp [ownerEntry]
  · intro j hj hj'
    exact hj (Option.some.inj (hj'.symm.trans ha))
  · intro b hb
    cases hb
    exact hon

/-- R134: an entry offers a frame of its own on its own line. -/
theorem offer_onLine (he : s.entry i = some e) (ha : s.offer l i e = some a) :
    ownerEntry (some a) = some i ∧ OwnerOnLine s l a ∧ frameOfOwner a = true := by
  unfold State.offer at ha
  dsimp only at ha
  split at ha
  next v hk hv =>
    split at ha
    next hc =>
      simp only [Bool.and_eq_true, beq_iff_eq] at hc
      cases ha
      exact ⟨rfl, ⟨e, he, .inl ⟨hk, hc.2⟩⟩, rfl⟩
    next => cases ha
  next => cases ha
  next hk =>
    split at ha
    next hc =>
      simp only [Bool.and_eq_true, beq_iff_eq] at hc
      cases ha
      exact ⟨rfl, ⟨e, he, by rw [hk]; simp, hc.2⟩, rfl⟩
    next => cases ha
  next v hk hv =>
    split at ha
    next hc =>
      simp only [Bool.and_eq_true, beq_iff_eq] at hc
      cases ha
      exact ⟨rfl, ⟨e, he, by rw [hk]; simp, hc.2⟩, rfl⟩
    next =>
      split at ha
      next hc =>
        simp only [Bool.and_eq_true, beq_iff_eq] at hc
        cases ha
        exact ⟨rfl, ⟨e, he, .inr ⟨hk, hc.2⟩⟩, rfl⟩
      next => cases ha
  next hk hv =>
    split at ha
    next hc =>
      simp only [Bool.and_eq_true, beq_iff_eq] at hc
      cases ha
      exact ⟨rfl, ⟨e, he, by rw [hk]; simp, hc.2⟩, rfl⟩
    next => cases ha

/-- R134: a selected frame is the due beacon's or an entry's own. -/
theorem selection_cases (ha : s.selection l = some a) :
    a = s.beaconFrame l ∨ ∃ i e, s.entry i = some e ∧ s.offer l i e = some a := by
  unfold State.selection at ha
  split at ha
  · unfold State.choice at ha
    split at ha
    · exact .inl (Option.some.inj ha).symm
    · obtain ⟨i, _, hi⟩ := List.exists_of_findSome?_eq_some ha
      unfold State.offerAt at hi
      split at hi
      next e he => exact .inr ⟨i, e, he, hi⟩
      next => cases hi
  · cases ha

theorem DirectoryFlies.copyFrame (h : DirectoryFlies s att) (hfree : att l = none) (ha : s.selection l = some a) :
    DirectoryFlies (s.copyFrame l a) (Function.update att l (some a)) := by
  have hcopied : DirectoryFlies (s.withLine l { s.line.get l with attempt := some a }) att :=
    (directoryFlies_keptByReactions att).withLine h l _
  obtain rfl | ⟨i, e, he, ho⟩ := selection_cases ha
  · exact hcopied.replace (by rw [hfree]; rfl) rfl fun b hb => by
      cases hb
      exact ⟨trivial, rfl⟩
  · obtain ⟨howner, hon⟩ := offer_onLine he ho
    have hlaunch := hcopied.launch hfree howner he hon
    obtain ⟨owner, frame⟩ := a
    cases owner with
    | beacon => cases howner
    | publish j =>
      cases howner
      exact hlaunch
    | ask j =>
      cases howner
      exact hlaunch

/-! ### The bank map -/

/-- R188: banks move only while nothing is in flight. -/
theorem DirectoryFlies.tryBanks (h : DirectoryFlies s att)
    (hp : bothDetached s = true → ∀ l, att l = none) : DirectoryFlies s.tryBanks att := by
  have K := directoryFlies_keptByReactions att
  cases hset : s.applySet with
  | none =>
    rw [State.tryBanks_none hset]
    exact h
  | some p =>
    rw [State.tryBanks_some hset]
    split
    next hgo =>
      have hboth : bothDetached s = true := by
        simp only [State.banksGo, Bool.and_eq_true] at hgo
        exact hgo.1.2
      have hnone := hp hboth
      have hmoved : DirectoryFlies (s.withApplied { s.applied with bankMap := p.values.bankMap }) att :=
        ⟨h.entry, h.occupied, h.retiring, fun l a ha => by
          rw [hnone l] at ha
          cases ha⟩
      unfold State.moveBanks
      exact K.raiseIf (K.withApplySet (K.sampleWhere hmoved _) _) _ _
    next => exact K.raiseIf (K.withApplySet h _) _ _

end

/-! ### The controllers' half -/

section
variable {s t : State} {l : LineId} {a : Attempt}

theorem State.flights_of_line (h : t.line = s.line) : t.flights = s.flights := by
  unfold State.flights
  rw [h]

theorem State.flights_eq (hm : t.line.get l.other = s.line.get l.other) :
    t.flights = Function.update s.flights l (t.flights l) := by
  funext m
  obtain rfl | rfl := LineId.eq_or_other l m
  · rw [Function.update_self]
  · rw [Function.update_of_ne (LineId.other_ne l)]
    unfold State.flights
    rw [hm]

/-- Every line as before. -/
theorem Flying.of_lines (h : Flying s) (hline : t.line = s.line) (hd : DirectoryFlies t s.flights) :
    Flying t := by
  refine ⟨State.flights_of_line hline ▸ hd, fun m hm => ?_⟩
  rw [hline] at hm
  rw [State.participates_of_line (s := s) (by rw [hline])]
  exact h.partakes m hm

/-- One line changed; it takes part, or its buffer is empty. -/
theorem Flying.of_line (h : Flying s) (hm : t.line.get l.other = s.line.get l.other)
    (hd : DirectoryFlies t (Function.update s.flights l (t.flights l)))
    (hl : t.flights l = none ∨ t.participates l = true) : Flying t := by
  refine ⟨State.flights_eq hm ▸ hd, fun m hsome => ?_⟩
  obtain rfl | rfl := LineId.eq_or_other l m
  · obtain hnone | hp := hl
    · unfold State.flights at hnone
      rw [hnone] at hsome
      cases hsome
    · exact hp
  · rw [hm] at hsome
    rw [State.participates_of_line (s := s) (by rw [hm])]
    exact h.partakes l.other hsome

/-- The buffer of a line emptied. -/
theorem Flying.of_ended (h : Flying s) (hm : t.line.get l.other = s.line.get l.other)
    (hnone : (t.line.get l).attempt = none) (hd : DirectoryFlies t (Function.update s.flights l none)) :
    Flying t :=
  h.of_line hm (by rw [show t.flights l = none from hnone]; exact hd) (.inl hnone)

/-- The buffer of a line as before. -/
theorem Flying.of_kept (h : Flying s) (hm : t.line.get l.other = s.line.get l.other)
    (hsame : (t.line.get l).attempt = (s.line.get l).attempt) (hd : DirectoryFlies t s.flights)
    (hp : (s.line.get l).attempt = none ∨ t.participates l = true) : Flying t := by
  have hself : t.flights l = s.flights l := hsame
  refine h.of_line hm ?_ (hp.imp_left hself.trans)
  rw [hself, Function.update_eq_self]
  exact hd

/-- R132: a line that does not take part has no frame in flight. -/
theorem Flying.none_of (h : Flying s) (hp : s.participates l = false) : (s.line.get l).attempt = none := by
  rw [← Option.not_isSome_iff_eq_none]
  intro hs
  rw [h.partakes l hs] at hp
  cases hp

theorem Flying.none_of_detached (h : Flying s) (hboth : bothDetached s = true) (m : LineId) :
    s.flights m = none := by
  obtain ⟨ha, hb⟩ := Bool.and_eq_true_iff.mp hboth
  cases m with
  | a => exact h.none_of (participates_of_isDetached ha)
  | b => exact h.none_of (participates_of_isDetached hb)

/-! ### Events -/

theorem Flying.reacted (h : Flying s) (hline : t.line = s.line)
    (hd : ∀ P, KeptByReactions P → P s → P t) : Flying t :=
  h.of_lines hline (hd _ (directoryFlies_keptByReactions s.flights) h.flies)

theorem Flying.judgePins (h : Flying s) : Flying s.judgePins :=
  h.reacted rfl fun _ K => K.judgePins

theorem Flying.servicePins (h : Flying s) (before : State) : Flying (s.servicePins before) :=
  h.reacted rfl fun _ K hs => K.servicePins hs before

theorem Flying.withEngine (h : Flying s) (x : Phase) : Flying (s.withEngine l x) :=
  h.reacted rfl fun _ K hs => K.withEngine hs l x

theorem Flying.tryLine (h : Flying s) : Flying (s.tryLine l) :=
  h.reacted (by simp) fun _ K => K.tryLine

theorem Flying.tryBanks (h : Flying s) : Flying s.tryBanks :=
  h.of_lines (by simp) (h.flies.tryBanks h.none_of_detached)

theorem Flying.finishSet (h : Flying s) : Flying s.finishSet :=
  h.reacted (by simp) fun _ K => K.finishSet

theorem Flying.notice (h : Flying s) : Flying (s.notice l) := h.tryLine.tryBanks.finishSet

theorem Flying.lineStateReport (h : Flying s) (old : LineState) : Flying (s.lineStateReport l old) :=
  h.reacted (by simp) fun _ K hs => K.lineStateReport hs old

theorem Flying.applyStaged (h : Flying s) : Flying s.applyStaged := by
  have hset : Flying ((s.withApplied { s.applied with routes := s.staged.routes }).withApplySet
      (some { values := s.staged, lineWaiting := { a := true, b := true }, bankWaiting := true })) :=
    h.reacted rfl fun _ K hs =>
      K.withApplySet (s := s.withApplied { s.applied with routes := s.staged.routes }) (K.same s _ hs rfl rfl rfl) _
  exact hset.tryLine.tryLine.tryBanks.finishSet

theorem DirectoryFlies.stopLine (h : DirectoryFlies s s.flights) (x : Ending) :
    DirectoryFlies (s.stopLine l x) (Function.update s.flights l none) := by
  have K := directoryFlies_keptByReactions (Function.update s.flights l none)
  have hstopped : DirectoryFlies (s.withEngine l .stopped) s.flights :=
    (directoryFlies_keptByReactions s.flights).withEngine h l _
  unfold State.stopLine
  dsimp only
  split
  next a ha => exact K.withLine (hstopped.ended ha x) l _
  next hnone =>
    have hsame : Function.update s.flights l none = s.flights := by
      rw [← show s.flights l = none from hnone, Function.update_eq_self]
    rw [hsame] at K ⊢
    exact K.withLine (K.emptyBuffer hstopped l) l _

theorem Flying.stopLine (h : Flying s) (x : Ending) : Flying (s.stopLine l x) :=
  h.of_ended (by simp) (by rw [State.line_stopLine]; rfl) (h.flies.stopLine x)

theorem Flying.detachLine (h : Flying s) : Flying (s.detachLine l) := by
  unfold State.detachLine
  split
  · exact h.notice
  · exact ((h.stopLine _).lineStateReport _).notice

theorem Flying.transmitSucceeds (h : Flying s) (ha : s.sendingAttempt l = some a) :
    Flying (s.transmitSucceeds l a) := by
  obtain ⟨hp, hatt, _⟩ := (sendingAttempt_iff s l a).mp ha
  refine h.of_ended (State.line_transmitSucceeds_other s l a) (by rw [State.line_transmitSucceeds s l a hp]) ?_
  have K := directoryFlies_keptByReactions s.flights
  have hcounted : DirectoryFlies ((s.withEngine l (.intermission 0)).countTransmission l) s.flights :=
    K.withCounts (K.withEngine h.flies l _) l _ _
  exact (directoryFlies_keptByReactions _).judgePins (hcounted.ended hatt .success)

theorem Flying.transmitErrorOn (h : Flying s) (ha : s.sendingAttempt l = some a) (kind : ErrorKind) :
    Flying (s.transmitErrorOn l kind a) := by
  obtain ⟨hp, hatt, _⟩ := (sendingAttempt_iff s l a).mp ha
  have hatt : s.flights l = some a := hatt
  have K := directoryFlies_keptByReactions s.flights
  have hnoted : DirectoryFlies (s.errorNoted l kind) s.flights := K.noteError (K.withEngine h.flies l _) l kind
  have K' := directoryFlies_keptByReactions (Function.update s.flights l none)
  by_cases hf : (s.line.get l).failsOff kind
  · refine h.of_ended ?_ (by rw [State.line_transmitErrorOn_off s l kind a hf]) ?_
    · rw [State.transmitErrorOn_off s l kind a hf]
      simp [State.enterOff, State.errorNoted]
    · rw [State.transmitErrorOn_off s l kind a hf]
      exact K'.raise (K'.raise (K'.lineStateReport (K'.withLine (hnoted.ended hatt .abortOff) l _) _) _) _
  · refine h.of_ended ?_ (by rw [State.line_transmitErrorOn_counts s l kind a hp hf]) ?_
    · rw [State.transmitErrorOn_counts s l kind a hf]
      simp [State.errorNoted]
    · rw [State.transmitErrorOn_counts s l kind a hf]
      exact (K.withCounts hnoted l _ _).ended hatt .error

theorem Flying.copyFrame (h : Flying s) (ha : s.selection l = some a) : Flying (s.copyFrame l a) := by
  obtain ⟨hp, hnone, _⟩ := (canSelect_iff s l).mp (canSelect_of_selection ha)
  have hcopied : (s.copyFrame l a).flights l = some a := by
    unfold State.flights
    rw [State.line_copyFrame]
  refine h.of_line (l := l) (by simp) ?_ (.inr ?_)
  · rw [hcopied]
    exact h.flies.copyFrame hnone ha
  · rw [State.participates_of_line (s := s) (by rw [State.line_copyFrame])]
    exact hp

theorem Flying.takeFrame (h : Flying s) {w : WireFrame} (hp : s.participates l = true)
    (hw : w.legal = true) : Flying (s.takeFrame l w) := by
  have hline := State.line_takeFrame s l w hp
  refine h.of_kept (l := l) (by simp) (by rw [hline]; rfl)
    ((directoryFlies_keptByReactions s.flights).takeFrame h.flies w hw) (.inr ?_)
  have hcounted := State.participates_withCounts s l (s.line.get l).transmitCount ((s.line.get l).receiveCount - 1) hp
  rw [participates_iff, hline, ← State.line_withCounts s l _ _ hp]
  exact (participates_iff _ l).mp hcounted

theorem Flying.receiveErrorOn (h : Flying s) (hp : s.participates l = true) (kind : ErrorKind) :
    Flying (s.receiveErrorOn l kind) := by
  have K := directoryFlies_keptByReactions s.flights
  refine h.of_kept (l := l) (by simp [State.receiveErrorOn]) (by rw [State.line_receiveErrorOn s l kind hp]; rfl)
    (K.withCounts (K.noteError (K.withEngine h.flies l _) l kind) l _ _) (.inr ?_)
  exact State.participates_withCounts _ l _ _ ((participates_noteError (s.withEngine l _) l kind l).trans hp)

theorem Flying.endRecovery (h : Flying s) (hoff : s.participates l = false) :
    Flying (s.endRecovery l) := by
  have K := directoryFlies_keptByReactions s.flights
  have hnone := h.none_of hoff
  have hended : ∀ x y, (x : LineCtl).attempt = (s.line.get l).attempt →
      Flying (((s.withLine l x).withEngine l y).raise (.ofLine l .lineState)) := fun x y hx =>
    h.of_kept (l := l) (by simp) (by simp [hx]) (K.raise (K.withEngine (K.withLine h.flies l x) l y) _) (.inl hnone)
  unfold State.endRecovery
  dsimp only
  split
  · refine (hended _ _ ?_).lineStateReport _
    rfl
  · refine ((hended _ _ ?_).lineStateReport _).notice
    rfl

theorem Flying.idleSequenceOn (h : Flying s) : Flying (s.idleSequenceOn l) := by
  have K := directoryFlies_keptByReactions s.flights
  unfold State.idleSequenceOn
  split
  next => exact h
  next hj =>
    have hnone : (s.line.get l).attempt = none := h.none_of (by unfold State.participates; rw [hj]; rfl)
    exact h.of_kept (l := l) (by simp [State.completeJoin]) (by simp [State.completeJoin])
      (K.lineStateReport (K.raise (K.withEngine (K.withLine h.flies l _) l _) _) _) (.inl hnone)
  next => exact h.withEngine _
  next => exact h.withEngine _
  next ho =>
    have hoff : s.participates l = false := by unfold State.participates; rw [ho]; rfl
    unfold State.recoveryStep
    dsimp only
    split
    · exact h.endRecovery hoff
    · exact h.of_kept (l := l) (by simp) (by simp) (K.withEngine (K.withLine h.flies l _) l _) (.inl (h.none_of hoff))

/-! ### CLEAR -/

/-- R18: every entry EMPTY. -/
def State.Vacant (s : State) : Prop := ∀ i, s.entry i = none

theorem vacant_keptByReactions : KeptByReactions State.Vacant where
  same := fun s t h he _ _ i => by
    unfold State.entry
    rw [he]
    exact h i
  react := fun s f h _ i => by rw [State.entry_react, h i]; rfl

theorem State.Vacant.reportToEntry {i : Index} (h : s.Vacant) (x : Ending) : s.reportToEntry l i a x = s := by
  unfold State.reportToEntry
  rw [h i]

theorem State.Vacant.report (h : s.Vacant) (x : Ending) : (s.report l a x).Vacant := by
  unfold State.report
  split
  · unfold State.reportToCycleUnit
    split
    · exact vacant_keptByReactions.takeBoundary (vacant_keptByReactions.withCycle h l _) _
    · exact h
  · rwa [h.reportToEntry]
  · rwa [h.reportToEntry]

theorem State.Vacant.clearLine (x : State) (h : x.Vacant) : (s.clearLine x l).Vacant := by
  have K := vacant_keptByReactions
  unfold State.clearLine
  split
  · exact h
  · unfold State.stopLine
    dsimp only
    split
    · exact K.withLine (State.Vacant.report (K.emptyBuffer (K.withEngine h l _) l) _) l _
    · exact K.withLine (K.emptyBuffer (K.withEngine h l _) l) l _

theorem State.Vacant.clearReport (x : State) (h : x.Vacant) : (s.clearReport x l).Vacant := by
  unfold State.clearReport
  split
  · exact h
  · exact vacant_keptByReactions.lineStateReport h _

theorem State.cleared_vacant (s : State) : s.cleared.Vacant := by
  have hempty : s.emptied.Vacant := fun i => Directory.get_empty i
  exact State.Vacant.clearReport _ (State.Vacant.clearReport _ (State.Vacant.clearLine _ (State.Vacant.clearLine _ hempty)))

/-- Without entries and without frames the two agree. -/
theorem flying_vacant (hv : s.Vacant) (hnone : ∀ l, s.flights l = none) : Flying s where
  flies :=
    { entry := fun i e _ he => by
        rw [hv i] at he
        cases he
      occupied := fun i l hl => by
        rw [hnone l] at hl
        cases hl
      retiring := fun i e he => by
        rw [hv i] at he
        cases he
      onLine := fun l a ha => by
        rw [hnone l] at ha
        cases ha }
  partakes := fun l hl => by
    rw [show (s.line.get l).attempt = none from hnone l] at hl
    cases hl

theorem Flying.clearPart (h : Flying s) : Flying s.clearPart := by
  have hnone : ∀ m, (s.clearedLine m).attempt = none := by
    intro m
    unfold State.clearedLine
    split
    next hd => exact h.none_of (participates_of_isDetached hd)
    next => rfl
  have hcleared : Flying s.cleared := flying_vacant s.cleared_vacant fun m => by
    have hline := s.line_clearPart m
    rw [State.clearPart_eq, State.line_notice, State.line_notice] at hline
    unfold State.flights
    rw [hline]
    exact hnone m
  rw [State.clearPart_eq]
  exact hcleared.notice.notice

/-! ### Requests -/

theorem Flying.setEntry {i : Index} {e x : Entry} (h : Flying s) (he : s.entry i = some e)
    (hx : SameFlight e x) : Flying (s.setEntry i x) :=
  h.of_lines rfl (h.flies.setEntry he hx)

/-- R12: a claimed entry has nothing in flight. -/
theorem claimedEntry_inFlight {op : ClaimOperands} {e : Entry} (h : claimedEntry op = some e) :
    e.inFlight = { a := false, b := false } := by
  unfold claimedEntry at h
  dsimp only at h
  (repeat' split at h) <;> cases h <;> rfl

theorem Flying.claim {op : ClaimOperands} {i : Index} {e : Entry} (h : Flying s)
    (he : claimedEntry op = some e) (hi : s.entry i = none) :
    Flying (s.setEntry i { e with state := s.initialState i e.kind }) := by
  have hfree : ∀ m, ownerEntry (s.flights m) ≠ some i := fun m hm => by
    have hsome := h.flies.occupied i m hm
    rw [hi] at hsome
    cases hsome
  have hentry : ∀ j y, (s.setEntry i { e with state := s.initialState i e.kind }).entry j = some y →
      (j = i ∧ y.inFlight = { a := false, b := false } ∧ y.state ≠ .retiring) ∨ s.entry j = some y := by
    intro j y hy
    rw [State.entry_setEntry] at hy
    split at hy
    next hj =>
      cases hy
      have hin := claimedEntry_inFlight he
      refine .inl ⟨hj, hin, ?_⟩
      unfold State.initialState
      dsimp only
      split <;> simp
    next => exact .inr hy
  have hrest : ∀ j y, s.entry j = some y →
      (s.setEntry i { e with state := s.initialState i e.kind }).entry j = some y := by
    intro j y hy
    rw [State.entry_setEntry, if_neg]
    · exact hy
    · rintro rfl
      rw [hi] at hy
      cases hy
  refine h.of_lines rfl ⟨fun j y m hy => ?_, fun j m hm => ?_, fun j y hy hs => ?_, fun m a ha => ?_⟩
  · obtain ⟨hj, hin, _⟩ | hy := hentry j y hy
    · rw [hin, hj]
      refine iff_of_false ?_ (hfree m)
      cases m <;> exact Bool.false_ne_true
    · exact h.flies.entry j y m hy
  · obtain ⟨y, hy⟩ := Option.isSome_iff_exists.mp (h.flies.occupied j m hm)
    rw [hrest j y hy]
    rfl
  · obtain ⟨_, _, hlive⟩ | hy := hentry j y hy
    · exact absurd hs hlive
    · exact h.flies.retiring j y hy hs
  · obtain ⟨hon, hframe⟩ := h.flies.onLine m a ha
    exact ⟨ownerOnLine_of_kinds hon rfl fun j y _ hy => ⟨y, hrest j y hy, rfl⟩, hframe⟩

theorem Flying.emptyEntry {i : Index} {e : Entry} (h : Flying s) (he : s.entry i = some e)
    (hg : e.grounded = true) : Flying (s.emptyEntry i) := by
  have hfree : ∀ m, ownerEntry (s.flights m) ≠ some i := fun m hm => by
    have hin := (h.flies.entry i e m he).mpr hm
    rw [e.grounded_iff.mp hg] at hin
    cases m <;> cases hin
  have hrest : ∀ j, j ≠ i → (s.emptyEntry i).entry j = s.entry j := fun j hj => by
    rw [State.entry_emptyEntry, if_neg hj]
  have hkeep : ∀ j y, (s.emptyEntry i).entry j = some y → s.entry j = some y := by
    intro j y hy
    rw [State.entry_emptyEntry] at hy
    split at hy
    · cases hy
    · exact hy
  refine h.of_lines rfl ⟨fun j y m hy => h.flies.entry j y m (hkeep j y hy), fun j m hm => ?_,
    fun j y hy => h.flies.retiring j y (hkeep j y hy), fun m a ha => ?_⟩
  · rw [hrest j fun hj => hfree m (hj ▸ hm)]
    exact h.flies.occupied j m hm
  · obtain ⟨hon, hframe⟩ := h.flies.onLine m a ha
    refine ⟨ownerOnLine_of_kinds hon rfl fun j y hj hy => ⟨y, ?_, rfl⟩, hframe⟩
    rw [hrest j fun hji => hfree m (by rw [ha, hj, hji])]
    exact hy

theorem Flying.takeHead (h : Flying s) (i : Index) (rest : List Index) :
    Flying (s.takeHead i rest) := by
  unfold State.takeHead
  split
  next e he =>
    have hx : SameFlight e { e with causes := .nothing } := ⟨rfl, rfl, .inl⟩
    exact (h.setEntry he hx).of_lines rfl (h.setEntry he hx).flies.withQueue
  next => exact h.of_lines rfl h.flies.withQueue

theorem Flying.request (h : Flying s) (ht : RequestLeaves s t) : Flying t := by
  have K := directoryFlies_keptByReactions s.flights
  cases ht with
  | same => exact h
  | claim op i e he hi => exact h.claim he hi
  | empty i e he _ hg => exact (h.emptyEntry he hg).judgePins
  | edit i e x he hx => exact h.setEntry he hx.sameFlight
  | take i rest => exact (h.takeHead i rest).servicePins s
  | takeNone => exact h.servicePins s
  | ackEvents => exact h.reacted rfl fun _ K hs => K.same s _ hs rfl rfl rfl
  | join l hl =>
    have hnone : (s.line.get l).attempt = none := h.none_of (participates_of_isDetached (by simp [State.isDetached, hl]))
    exact h.of_kept (l := l) (by simp [State.startJoin]) (by simp [State.startJoin])
      (K.withEngine (K.withLine h.flies l _) l _) (.inl hnone)
  | rejoin l hl =>
    have hnone : (s.line.get l).attempt = none := h.none_of (by unfold State.participates; rw [hl]; rfl)
    exact h.of_kept (l := l) (by simp) (by simp) (K.withLine h.flies l _) (.inl hnone)
  | detach l => exact h.detachLine.judgePins
  | settingWrite => exact h.reacted rfl fun _ K hs => K.same s _ hs rfl rfl rfl
  | apply => exact h.applyStaged.judgePins
  | clear => exact h.clearPart.servicePins s

theorem flying_reset : Flying State.reset :=
  flying_vacant (fun i => Directory.get_empty i) fun l => by cases l <;> rfl

theorem flying_keptByEvents : KeptByEvents Flying where
  outside := fun s _ _ _ h => h.reacted rfl fun _ K hs => K.same s _ hs rfl rfl rfl
  reset := flying_reset
  request := fun _ _ h ht => h.request ht
  bit := fun _ _ h => h.withEngine _
  frame := fun s l _ h hc hw => (h.withEngine (.intermission 0)).takeFrame ((canReceive_iff s l).mp hc).1 hw
  query := fun s l w h hq => by
    obtain ⟨hsend, _, hw⟩ := (queriedInFlight_iff s l w).mp hq
    obtain ⟨a, ha⟩ := Option.ne_none_iff_exists'.mp hsend
    exact h.takeFrame ((sendingAttempt_iff s l a).mp ha).1 hw
  receiveError := fun s l kind h hc => (h.receiveErrorOn ((canReceive_iff s l).mp hc).1 kind).judgePins
  selection := fun _ _ _ h ha => h.copyFrame ha
  success := fun _ _ _ h ha => h.transmitSucceeds ha
  loss := fun s l a bits h ha => by
    have hatt : s.flights l = some a := ((sendingAttempt_iff s l a).mp ha).2.1
    have hreceiving := h.withEngine (l := l) (.receiving bits)
    exact (hreceiving.of_ended (by simp) (by simp) (hreceiving.flies.ended hatt .loss)).judgePins
  transmitError := fun _ _ kind _ h ha _ => (h.transmitErrorOn ha kind).judgePins
  idleSequence := fun _ _ h _ => h.idleSequenceOn.judgePins
  period := fun _ l h _ => h.reacted rfl fun _ K hs => K.withCycle hs l _
  watch := fun _ _ h _ => (h.reacted (by simp) fun _ K hs => K.watchExpires hs).judgePins
  window := fun s _ h _ => h.reacted rfl fun _ K hs => K.same s _ hs rfl rfl rfl

end

/-- Settles O52: a frame is launched at its selection, lands at its outcome, and nothing else moves it. -/
theorem flightStaysConsistent : Obligations.FlightStaysConsistent := fun s t h ht =>
  (flying_iff t).mp (flying_keptByEvents.step ((flying_iff s).mpr h) ht)

end Sys2Proof.Machine

/-! PROOFS. A receiving side is FROZEN exactly while its home line is not usable, at every step (R12, R43 to R46, R141). -/

namespace Sys2Proof.Machine

open Sys2Proof.Safety

/-! ### One entry -/

/-- R43: what an entry owes to the usability `b` of its home line. -/
def Frosty (b : Bool) (e : Entry) : Prop :=
  e.kind ≠ .output → e.state ≠ .spent ∧ (e.state ≠ .retiring → (e.state = .frozen ↔ b = false))

/-- Two entries with the same standing towards the usability of their line. -/
structure SameFrost (e x : Entry) : Prop where
  kind : x.kind = e.kind
  state : e.kind = .output ∨ x.state = e.state ∨ x.state = .retiring ∨
    ((e.state = .live ∨ e.state = .stale) ∧ (x.state = .live ∨ x.state = .stale))

theorem SameFrost.refl (e : Entry) : SameFrost e e := ⟨rfl, .inr (.inl rfl)⟩

section
variable {e x : Entry} {b : Bool}

theorem Frosty.kept (h : Frosty b e) (hx : SameFrost e x) : Frosty b x := by
  intro hk
  rw [hx.kind] at hk
  obtain ⟨hspent, hfrozen⟩ := h hk
  obtain ho | hs | hr | ⟨hold, hnew⟩ := hx.state
  · exact absurd ho hk
  · rw [hs]
    exact ⟨hspent, hfrozen⟩
  · rw [hr]
    exact ⟨nofun, fun hn => absurd rfl hn⟩
  · have hb : ¬ b = false := by
      intro hb
      obtain hold | hold := hold <;> rw [hold] at hfrozen <;> cases (hfrozen nofun).mpr hb
    obtain hnew | hnew := hnew <;> rw [hnew] <;> exact ⟨nofun, fun _ => iff_of_false nofun hb⟩

theorem Frosty.result {r : Reaction} (h : Frosty b r.entry) : Frosty b (r.result e) := by
  unfold Reaction.result
  split
  · exact h
  · exact h

/-- R44: a loss of usability. -/
theorem Frosty.freeze (h : Frosty b e) : Frosty false e.freeze.entry := by
  unfold Entry.freeze
  split
  next => exact fun _ => ⟨nofun, fun _ => iff_of_true rfl rfl⟩
  next hc =>
    intro hk
    obtain ⟨hspent, _⟩ := h hk
    refine ⟨hspent, fun hr => iff_of_true ?_ rfl⟩
    have hk : e.kind ≠ .output := hk
    have hr : e.state ≠ .retiring := hr
    cases hs : e.state with
    | frozen => exact hs
    | spent => exact absurd hs hspent
    | retiring => exact absurd hs hr
    | live => simp [hk, hs] at hc
    | stale => simp [hk, hs] at hc

/-- R45: a gain of usability. -/
theorem Frosty.thaw (h : Frosty b e) : Frosty true e.thaw.entry := by
  unfold Entry.thaw
  split
  next => exact fun _ => ⟨nofun, fun _ => iff_of_false nofun nofun⟩
  next hc =>
    intro hk
    obtain ⟨hspent, _⟩ := h hk
    refine ⟨hspent, fun _ => iff_of_false (fun hs => hc ?_) nofun⟩
    have hk : e.kind ≠ .output := hk
    have hs : e.state = .frozen := hs
    simp [hk, hs]

theorem ageing_sameFrost (hs : e.state = .live ∨ e.state = .stale) : SameFrost e e.ageing.entry := by
  unfold Entry.ageing
  dsimp only
  split
  · exact ⟨rfl, .inr (.inr (.inr ⟨hs, .inr rfl⟩))⟩
  · exact ⟨rfl, .inr (.inl rfl)⟩

theorem sample_sameFrost (e : Entry) (mode : CycleMode) : SameFrost e (e.sample mode) := by
  unfold Entry.sample
  split <;> exact ⟨rfl, .inr (.inl rfl)⟩

theorem atBoundary_kind (e : Entry) (number : BitVec 4) : (e.atBoundary number).kind = e.kind :=
  (atBoundary_identity e number).kind

/-- R38, R46: a boundary that also carries a gain of usability, or does not. -/
theorem Frosty.boundary (h : Frosty b e) (number : BitVec 4) (gained : Bool) :
    Frosty (b || gained) (e.boundary number gained).entry := by
  unfold Entry.boundary
  split
  next hk => exact fun hn => absurd ((atBoundary_kind e number).trans hk) hn
  next hk =>
    have hk : e.kind ≠ .output := hk
    obtain ⟨hspent, hfrozen⟩ := h hk
    have hopen : ∀ x : Entry, SameFrost e x → (e.state = .live ∨ e.state = .stale) → Frosty (b || gained) x := by
      intro x hx hs
      have hb : b = true := by
        by_contra hb
        have hfs := (hfrozen (by obtain hs | hs := hs <;> rw [hs] <;> exact nofun)).mpr (Bool.eq_false_iff.mpr hb)
        rw [hfs] at hs
        obtain hs | hs := hs <;> cases hs
      rw [hb, Bool.true_or, ← hb]
      exact h.kept hx
    split
    next hs => exact hopen _ (ageing_sameFrost (.inl hs)) (.inl hs)
    next hs => exact hopen _ (ageing_sameFrost (.inr hs)) (.inr hs)
    next hs =>
      have hb : b = false := (hfrozen (by rw [hs]; exact nofun)).mp hs
      rw [hb, Bool.false_or]
      split
      next hg =>
        rw [hg]
        exact h.thaw
      next hg =>
        rw [Bool.eq_false_iff.mpr hg, ← hb]
        exact h
    next hlive hstale hfr =>
      have hret : e.state = .retiring := by
        cases hs : e.state with
        | live => exact absurd hs hlive
        | stale => exact absurd hs hstale
        | frozen => exact absurd hs hfr
        | spent => exact absurd hs hspent
        | retiring => rfl
      exact fun _ => ⟨hspent, fun hn => absurd hret hn⟩

theorem receive_sameFrost (e : Entry) (v : Value) (stamp : Option (BitVec 4)) :
    SameFrost e (e.receive v stamp).entry := by
  have haccept : (e.state = .live ∨ e.state = .stale) → SameFrost e (e.accept v stamp).entry := by
    intro hs
    unfold Entry.accept
    dsimp only
    (repeat' split) <;> exact ⟨rfl, .inr (.inr (.inr ⟨hs, .inl rfl⟩))⟩
  unfold Entry.receive
  split
  next hs => exact haccept (.inl hs)
  next hs => exact haccept (.inr hs)
  next => exact .refl e
  next => exact .refl e
  next => exact .refl e

theorem queried_sameFrost (e : Entry) : SameFrost e e.queried.entry := by
  unfold Entry.queried
  split <;> exact ⟨rfl, .inr (.inl rfl)⟩

theorem outcome_sameFrost (e : Entry) (l : LineId) (a : Attempt) (x : Ending) (stamp : Option (BitVec 4)) :
    SameFrost e ((e.landed l).outcome a x stamp).entry := by
  unfold Entry.outcome
  split
  · unfold Entry.publishSuccess
    split
    next hk =>
      split
      · exact ⟨rfl, .inl hk⟩
      · exact ⟨rfl, .inl hk⟩
    · exact ⟨rfl, .inr (.inl rfl)⟩
    · exact ⟨rfl, .inr (.inl rfl)⟩
  · exact ⟨rfl, .inr (.inl rfl)⟩
  · exact ⟨rfl, .inr (.inl rfl)⟩

theorem EntryEdit.sameFrost {m : CycleMode} (h : EntryEdit m e x) : SameFrost e x := by
  cases h with
  | retire => exact ⟨rfl, .inr (.inr (.inl rfl))⟩
  | stage v _ hk => exact ⟨(EntryEdit.identity (.stage v ‹_› hk ‹_›)).kind, .inl hk⟩
  | unhold =>
    have hsampled := sample_sameFrost { e with held := false } .free
    unfold Entry.unhold
    dsimp only
    split
    · exact ⟨hsampled.kind, hsampled.state⟩
    · exact ⟨rfl, .inr (.inl rfl)⟩
  | _ => exact ⟨rfl, .inr (.inl rfl)⟩

end

/-! ### A directory under given usabilities -/

/-- R43 over the directory, for lines of the usabilities `u`. -/
def FrozenBy (u : LineId → Bool) (s : State) : Prop := ∀ i e, s.entry i = some e → Frosty (u (s.home i)) e

/-- R43: the entries stand as the usability of their lines asks. -/
def Frozen (s : State) : Prop := FrozenBy s.usable s

theorem frozen_iff (s : State) : Frozen s ↔ FrozenAgrees s := Iff.rfl

section
variable {s t : State} {u v : LineId → Bool} {l : LineId}

theorem FrozenBy.of_entries (h : FrozenBy u s)
    (hback : ∀ i x, t.entry i = some x → ∃ e, s.entry i = some e ∧ (Frosty (u (s.home i)) e → Frosty (v (t.home i)) x)) :
    FrozenBy v t := by
  intro i x hx
  obtain ⟨e, he, himp⟩ := hback i x hx
  exact himp (h i e he)

theorem FrozenBy.same (h : FrozenBy u s) (he : t.entries = s.entries) (hb : t.applied.bankMap = s.applied.bankMap) :
    FrozenBy u t := by
  refine h.of_entries fun i x hx => ⟨x, ?_, ?_⟩
  · unfold State.entry at hx ⊢
    rwa [he] at hx
  · rw [State.home_of_bankMap hb]
    exact id

theorem FrozenBy.react {f : Index → Entry → Reaction} (h : FrozenBy u s)
    (hf : ∀ i e, s.entry i = some e → Frosty (u (s.home i)) e → Frosty (v (s.home i)) (f i e).entry) :
    FrozenBy v (s.react f) := by
  refine h.of_entries fun i x hx => ?_
  rw [State.entry_react, Option.map_eq_some_iff] at hx
  obtain ⟨e, he, rfl⟩ := hx
  exact ⟨e, he, fun hfrost => (hf i e he hfrost).result⟩

theorem FrozenBy.react_same {f : Index → Entry → Reaction} (h : FrozenBy u s)
    (hf : ∀ i e, s.entry i = some e → SameFrost e (f i e).entry) : FrozenBy u (s.react f) :=
  h.react fun i e he hfrost => hfrost.kept (hf i e he)

theorem FrozenBy.setEntry {i : Index} {x : Entry} (h : FrozenBy u s) (hx : Frosty (u (s.home i)) x) :
    FrozenBy u (s.setEntry i x) := by
  intro j y hy
  rw [State.entry_setEntry] at hy
  rw [State.home_setEntry]
  split at hy
  next hj =>
    cases hy
    rw [hj]
    exact hx
  next => exact h j y hy

theorem FrozenBy.edit {i : Index} {e x : Entry} (h : FrozenBy u s) (he : s.entry i = some e) (hx : SameFrost e x) :
    FrozenBy u (s.setEntry i x) := h.setEntry ((h i e he).kept hx)

theorem FrozenBy.emptyEntry {i : Index} (h : FrozenBy u s) : FrozenBy u (s.emptyEntry i) := by
  refine h.of_entries fun j x hx => ?_
  rw [State.entry_emptyEntry] at hx
  split at hx
  · cases hx
  · exact ⟨x, hx, id⟩

theorem FrozenBy.reportToEntry {i : Index} (h : FrozenBy u s) (a : Attempt) (x : Ending) :
    FrozenBy u (s.reportToEntry l i a x) := by
  unfold State.reportToEntry
  split
  next => exact h
  next e he =>
    split
    · split
      · split
        · exact h.emptyEntry
        · exact h.edit he ⟨rfl, .inr (.inl rfl)⟩
      · exact h.react_same (reactAt_each he (outcome_sameFrost e l a x _) SameFrost.refl)
    · exact h

theorem FrozenBy.sampleWhere (h : FrozenBy u s) (p : Index → Bool) : FrozenBy u (s.sampleWhere p) := by
  rw [sampleWhere_eq]
  refine h.react_same fun i e _ => ?_
  unfold sampleReaction
  split
  · exact sample_sameFrost e _
  · exact .refl e

theorem FrozenBy.launch {i : Index} (h : FrozenBy u s) : FrozenBy u (s.launch l i) := by
  unfold State.launch
  split
  next e he => exact h.edit he ⟨rfl, .inr (.inl rfl)⟩
  next => exact h

theorem FrozenBy.copyFrame (h : FrozenBy u s) (a : Attempt) : FrozenBy u (s.copyFrame l a) := by
  have hcopied : FrozenBy u (s.withLine l { s.line.get l with attempt := some a }) := h.same rfl rfl
  unfold State.copyFrame
  dsimp only
  split
  · exact hcopied
  · exact hcopied.launch
  · exact hcopied.launch

theorem FrozenBy.takeHead {i : Index} (h : FrozenBy u s) (rest : List Index) : FrozenBy u (s.takeHead i rest) := by
  unfold State.takeHead
  split
  next e he =>
    have hx : SameFrost e { e with causes := .nothing } := ⟨rfl, .inr (.inl rfl)⟩
    exact (h.edit he hx).same rfl rfl
  next => exact h.same rfl rfl

/-! ### Usability -/

theorem State.usable_eq {m : LineId} (hp : t.participates m = s.participates m) (hm : t.mode m = s.mode m)
    (hs : (t.cycle.get m).sync = (s.cycle.get m).sync) : t.usable m = s.usable m := by
  unfold State.usable usableIn
  rw [hm, hs]
  exact congrArg (· && _) hp

theorem State.usable_of_isDetached (h : s.isDetached l = true) : s.usable l = false := by
  unfold State.usable usableIn
  exact Bool.and_eq_false_iff.mpr (.inl (participates_of_isDetached h))

theorem FrozenBy.frozen (h : FrozenBy u s) (hu : ∀ m, s.usable m = u m) : Frozen s := by
  have heq : s.usable = u := funext hu
  unfold Frozen
  rw [heq]
  exact h

/-- A change that no entry and no usability sees. -/
theorem Frozen.of_same (h : Frozen s) (he : t.entries = s.entries) (ha : t.applied = s.applied)
    (hp : ∀ m, t.participates m = s.participates m) (hs : ∀ m, (t.cycle.get m).sync = (s.cycle.get m).sync) :
    Frozen t :=
  (FrozenBy.same h he (by rw [ha])).frozen fun m => State.usable_eq (hp m) (by unfold State.mode; rw [ha]) (hs m)

theorem Frozen.judgePins (h : Frozen s) : Frozen s.judgePins := h

theorem Frozen.servicePins (h : Frozen s) (before : State) : Frozen (s.servicePins before) := h

theorem Frozen.raise (h : Frozen s) (f : EventFlag) : Frozen (s.raise f) := h

theorem Frozen.withEngine (h : Frozen s) (x : Phase) : Frozen (s.withEngine l x) := h

/-- R141: a change of usability delivered. -/
theorem FrozenBy.deliverUsability (h : FrozenBy u s) (ho : s.usable l.other = u l.other) :
    Frozen (s.deliverUsability l (u l)) := by
  have hcase : ∀ b, s.usable l = b → ∀ t : State, (∀ m, t.usable m = s.usable m) →
      FrozenBy (fun m => if m = l then b else u m) t → Frozen t := by
    intro b hb t ht hfrozen
    refine hfrozen.frozen fun m => ?_
    rw [ht]
    obtain rfl | rfl := LineId.eq_or_other l m
    · rw [if_pos rfl]
      exact hb
    · rw [if_neg (LineId.other_ne l)]
      exact ho
  cases hnew : s.usable l with
  | false =>
    cases hold : u l with
    | false =>
      rw [State.deliverUsability_same s l _ hnew]
      refine h.frozen fun m => ?_
      obtain rfl | rfl := LineId.eq_or_other l m
      · exact hnew.trans hold.symm
      · exact ho
    | true =>
      rw [State.deliverUsability_lost s l hnew]
      refine hcase false hnew _ (fun m => State.usable_react s _ m) (h.react fun i e _ hfrost => ?_)
      split
      · exact hfrost.freeze
      · exact hfrost
  | true =>
    cases hold : u l with
    | false =>
      rw [State.deliverUsability_gained s l hnew]
      refine hcase true hnew _ (fun m => State.usable_react s _ m) (h.react fun i e _ hfrost => ?_)
      split
      · exact hfrost.thaw
      · exact hfrost
    | true =>
      rw [State.deliverUsability_same s l _ hnew]
      refine h.frozen fun m => ?_
      obtain rfl | rfl := LineId.eq_or_other l m
      · exact hnew.trans hold.symm
      · exact ho

/-- R140 to R142: the controller's report, in a state whose entries still stand by the old line state. -/
theorem FrozenBy.lineStateReport {old : LineState} (h : FrozenBy u s)
    (hl : u l = usableIn old (s.mode l) (s.cycle.get l).sync) (ho : s.usable l.other = u l.other) :
    Frozen (s.lineStateReport l old) := by
  have hkept : ∀ x : CycleUnit, FrozenBy u (s.withCycle l x) ∧ (s.withCycle l x).usable l.other = u l.other := fun x =>
    ⟨h.same rfl rfl, (State.usable_eq (s := s) (t := s.withCycle l x) rfl rfl (by simp)).trans ho⟩
  have hsame : ∀ t : State, FrozenBy u t → t.usable l.other = u l.other → t.participates l = old.participates →
      t.mode l = s.mode l → (t.cycle.get l).sync = (s.cycle.get l).sync → Frozen t := by
    intro t ht hto hp hm hs
    refine ht.frozen fun m => ?_
    obtain rfl | rfl := LineId.eq_or_other l m
    · rw [hl]
      unfold State.usable usableIn
      rw [hm, hs]
      exact congrArg (· && _) hp
    · exact hto
  unfold State.lineStateReport
  dsimp only
  rw [← hl]
  split
  next => exact (hkept _).1.deliverUsability (hkept _).2
  next => exact (hkept _).1.deliverUsability (hkept _).2
  next hold hnew =>
    split
    · exact hsame _ (hkept _).1 (hkept _).2 (hnew.trans hold.symm) rfl (by simp [State.unitRoleReset])
    · exact hsame s h ho (hnew.trans hold.symm) rfl rfl
  next hold hnew => exact hsame s h ho (hnew.trans hold.symm) rfl rfl

/-! ### Boundaries and frames -/

/-- R145: a boundary loses no usability. -/
theorem usable_advance (x : LineState) (m : CycleMode) (y : CycleUnit) (h : usableIn x m y.sync = true) :
    usableIn x m (syncAfter y).1 = true := by
  unfold usableIn at h ⊢
  cases m with
  | free => simpa using h
  | beaconed =>
    simp only [Bool.and_eq_true, Bool.or_eq_true, beq_iff_eq] at h
    obtain ⟨hp, hm | hs⟩ := h
    · cases hm
    · simp [hp, syncAfter, hs]

/-- R145: a boundary is its event at the directory, which carries the gain of usability. -/
theorem State.takeBoundary_eq (s : State) (l : LineId) (number : BitVec 4) :
    ∃ x : State, x.entries = s.entries ∧ x.queue = s.queue ∧ x.applied = s.applied ∧
      s.takeBoundary l number =
        x.boundaryAtDirectory l number (!s.usable l && (s.takeBoundary l number).usable l) :=
  ⟨_, by simp, by simp, by simp, rfl⟩

theorem State.usable_takeBoundary (s : State) (l : LineId) (number : BitVec 4) (m : LineId) :
    (s.takeBoundary l number).usable m =
      if m = l then s.usable l || (!s.usable l && (s.takeBoundary l number).usable l) else s.usable m := by
  obtain rfl | rfl := LineId.eq_or_other l m
  · rw [if_pos rfl]
    cases hold : s.usable m with
    | false => rfl
    | true =>
      have hmode : (s.takeBoundary m number).mode m = s.mode m := by simp [State.mode]
      unfold State.usable at hold ⊢
      rw [State.cycle_takeBoundary, State.line_takeBoundary, hmode]
      exact usable_advance _ _ (s.cycle.get m) hold
  · rw [if_neg (LineId.other_ne l)]
    exact State.usable_eq (State.participates_of_line (by simp)) (by simp [State.mode]) (by simp)

theorem Frozen.takeBoundary (h : Frozen s) (number : BitVec 4) : Frozen (s.takeBoundary l number) := by
  refine FrozenBy.frozen ?_ (s.usable_takeBoundary l number)
  generalize hgain : (!s.usable l && (s.takeBoundary l number).usable l) = gained
  obtain ⟨x, hentries, _, happlied, hx⟩ := s.takeBoundary_eq l number
  rw [hgain] at hx
  rw [hx]
  refine FrozenBy.react (FrozenBy.same h hentries (by rw [happlied])) fun i e _ hfrost => ?_
  split
  next hhome =>
    rw [hhome] at hfrost
    exact hfrost.boundary number gained
  next => exact hfrost

theorem Frozen.deliverBeacon (h : Frozen s) (address : Nat) (number : BitVec 4) :
    Frozen (s.deliverBeacon l address number) := by
  have hyield : Frozen (s.withCycle l (s.cycle.get l).yield) := h.of_same rfl rfl (fun _ => rfl) fun m => by
    obtain rfl | rfl := LineId.eq_or_other l m <;> simp [CycleUnit.yield]
  unfold State.deliverBeacon
  split
  · exact h
  · exact h.takeBoundary number
  · split
    · exact (hyield.raise _).takeBoundary number
    · exact h.raise _

theorem Frozen.react_same {f : Index → Entry → Reaction} (h : Frozen s)
    (hf : ∀ i e, s.entry i = some e → SameFrost e (f i e).entry) : Frozen (s.react f) := FrozenBy.react_same h hf

theorem Frozen.deliver (h : Frozen s) (w : WireFrame) : Frozen (s.deliver l w) := by
  unfold State.deliver
  split
  next =>
    split
    · exact h
    · refine h.react_same fun i e _ => ?_
      split
      · exact receive_sameFrost e _ _
      · split <;> exact .refl e
  next =>
    split
    · refine h.react_same fun i e _ => ?_
      split
      · exact queried_sameFrost e
      · exact .refl e
    · refine h.react_same fun i e _ => ?_
      split
      · exact queried_sameFrost e
      · exact .refl e
  next =>
    split
    · exact h.deliverBeacon _ _
    · exact h
  next => exact h

/-- One line's controller replaced; it takes part as before. -/
theorem Frozen.of_line (h : Frozen s) (he : t.entries = s.entries) (ha : t.applied = s.applied)
    (hc : t.cycle = s.cycle) (hm : t.line.get l.other = s.line.get l.other) (hp : t.participates l = s.participates l) :
    Frozen t := by
  refine h.of_same he ha (fun m => ?_) fun m => by rw [hc]
  obtain rfl | rfl := LineId.eq_or_other l m
  · exact hp
  · exact State.participates_of_line (by rw [hm])

theorem Frozen.withCounts (h : Frozen s) (hp : s.participates l = true) (t r : Nat) : Frozen (s.withCounts l t r) :=
  h.of_line (l := l) (by simp) (by simp) (by simp) (by simp) ((State.participates_withCounts s l t r hp).trans hp.symm)

theorem Frozen.noteError (h : Frozen s) (kind : ErrorKind) : Frozen (s.noteError l kind) :=
  h.of_same rfl rfl (participates_noteError s l kind) fun _ => rfl

theorem Frozen.emptyBuffer (h : Frozen s) : Frozen (s.emptyBuffer l) :=
  h.of_same rfl rfl (s.participates_emptyBuffer l) fun _ => rfl

theorem Frozen.takeFrame (h : Frozen s) (hp : s.participates l = true) (w : WireFrame) : Frozen (s.takeFrame l w) :=
  ((h.withCounts hp _ _).deliver w).judgePins

theorem Frozen.reportToEntry {i : Index} (h : Frozen s) (a : Attempt) (x : Ending) :
    Frozen (s.reportToEntry l i a x) :=
  (FrozenBy.reportToEntry h a x).frozen fun m =>
    State.usable_eq (State.participates_of_line (by simp)) (by simp [State.mode]) (by simp)

theorem Frozen.report (h : Frozen s) (a : Attempt) (x : Ending) : Frozen (s.report l a x) := by
  have hsent : Frozen (s.withCycle l { s.cycle.get l with due := false, fresh := false }) :=
    h.of_same rfl rfl (fun _ => rfl) fun m => by obtain rfl | rfl := LineId.eq_or_other l m <;> simp
  unfold State.report
  split
  · unfold State.reportToCycleUnit
    split
    · exact hsent.takeBoundary _
    · exact h
  · exact h.reportToEntry a x
  · exact h.reportToEntry a x

/-! ### Occasions -/

theorem Frozen.tryLine (h : Frozen s) : Frozen (s.tryLine l) := by
  cases hset : s.applySet with
  | none =>
    rw [State.tryLine_none l hset]
    exact h
  | some p =>
    rw [State.tryLine_some l hset]
    split
    next hgo =>
      have hdetached : s.isDetached l = true := (Bool.and_eq_true_iff.mp hgo).2
      have hentries : ∀ x : LineSettings, FrozenBy s.usable (s.applyLineItems l x) := by
        intro x
        have hnew : FrozenBy s.usable (((s.withApplied (s.applied.putLine l x)).withCycle l
            { s.cycle.get l with sync := idleSync x.cycleMode, acting := x.role })) := FrozenBy.same h rfl rfl
        unfold State.applyLineItems
        dsimp only
        split
        · exact hnew.sampleWhere _
        · exact hnew
      refine ((hentries _).same (t := (s.applyLineItems l _).withApplySet _) rfl rfl).frozen fun m => ?_
      obtain rfl | rfl := LineId.eq_or_other l m
      · rw [State.usable_of_isDetached hdetached]
        refine State.usable_of_isDetached ?_
        rw [← hdetached]
        exact State.isDetached_of_line (by simp)
      · exact State.usable_eq (State.participates_of_line (by simp))
          (by simp [State.mode, State.applied_applyLineItems]) (by simp)
    next => exact h

theorem Frozen.tryBanks (h : Frozen s) : Frozen s.tryBanks := by
  cases hset : s.applySet with
  | none =>
    rw [State.tryBanks_none hset]
    exact h
  | some p =>
    rw [State.tryBanks_some hset]
    split
    next hgo =>
      have hboth : bothDetached s = true := by
        simp only [State.banksGo, Bool.and_eq_true] at hgo
        exact hgo.1.2
      obtain ⟨ha, hb⟩ := Bool.and_eq_true_iff.mp hboth
      have hnone : ∀ m, s.usable m = false := fun m => by
        cases m
        · exact State.usable_of_isDetached ha
        · exact State.usable_of_isDetached hb
      have hmoved : FrozenBy s.usable (s.withApplied { s.applied with bankMap := p.values.bankMap }) := fun i e he => by
        rw [hnone, ← hnone (s.home i)]
        exact h i e he
      refine FrozenBy.frozen (u := s.usable) ?_ fun m => ?_
      · exact FrozenBy.same (s := s.moveBanks p.values.bankMap) (hmoved.sampleWhere _) (by simp) (by simp)
      · exact State.usable_eq (State.participates_of_line (by simp)) (by simp [State.mode]) (by simp)
    next => exact FrozenBy.frozen (FrozenBy.same h (by simp) (by simp)) fun m => by simp

theorem Frozen.finishSet (h : Frozen s) : Frozen s.finishSet :=
  h.of_same (by simp) (by simp) (fun _ => State.participates_of_line (by simp)) fun _ => by simp

theorem Frozen.notice (h : Frozen s) : Frozen (s.notice l) := h.tryLine.tryBanks.finishSet

theorem Frozen.applyStaged (h : Frozen s) : Frozen s.applyStaged := by
  have hset : Frozen ((s.withApplied { s.applied with routes := s.staged.routes }).withApplySet
      (some { values := s.staged, lineWaiting := { a := true, b := true }, bankWaiting := true })) := h
  exact hset.tryLine.tryLine.tryBanks.finishSet

/-! ### Line states -/

/-- The stop of a line leaves its entries, its mode and its unit to the report that follows. -/
theorem Frozen.stopLine (h : Frozen s) {x : Ending} (hx : x ≠ .success) : FrozenBy s.usable (s.stopLine l x) := by
  have hempty : FrozenBy s.usable ((s.withEngine l .stopped).emptyBuffer l) := FrozenBy.same h rfl rfl
  unfold State.stopLine
  dsimp only
  split
  next a _ =>
    refine FrozenBy.same (s := ((s.withEngine l .stopped).emptyBuffer l).report l a x) ?_ rfl rfl
    unfold State.report
    split
    · unfold State.reportToCycleUnit
      cases x with
      | success => exact absurd rfl hx
      | _ => exact hempty
    · exact hempty.reportToEntry a x
    · exact hempty.reportToEntry a x
  next => exact hempty.same rfl rfl

theorem Frozen.detachLine (h : Frozen s) : Frozen (s.detachLine l) := by
  unfold State.detachLine
  split
  · exact h.notice
  · refine (FrozenBy.lineStateReport (h.stopLine (by decide)) ?_ ?_).notice
    · rw [State.cycle_stopLine s l (by decide)]
      simp [State.usable, State.mode]
    · exact State.usable_eq (State.participates_of_line (by simp)) (by simp [State.mode])
        (by rw [State.cycle_stopLine s l (by decide)])

/-- A line put into another state, its engine set and its flag raised, and the state reported. -/
theorem Frozen.movedLine (h : Frozen s) {old : LineState} (ho : (s.line.get l).state = old) (c : LineCtl) (x : Phase) :
    Frozen ((((s.withLine l c).withEngine l x).raise (.ofLine l .lineState)).lineStateReport l old) := by
  refine FrozenBy.lineStateReport (u := s.usable) (FrozenBy.same h rfl rfl) ?_ ?_
  · unfold State.usable
    rw [ho]
    rfl
  · exact State.usable_eq (s := s) (State.participates_of_line (by simp)) rfl rfl

theorem Frozen.idleSequenceOn (h : Frozen s) : Frozen (s.idleSequenceOn l) := by
  unfold State.idleSequenceOn
  split
  next => exact h
  next hj => exact h.movedLine hj _ _
  next => exact h.withEngine _
  next => exact h.withEngine _
  next ho =>
    unfold State.recoveryStep
    dsimp only
    split
    · unfold State.endRecovery
      dsimp only
      split
      · exact h.movedLine ho _ _
      · exact (h.movedLine ho _ _).notice
    · exact Frozen.withEngine (h.of_line (t := s.withLine l _) (l := l) rfl rfl rfl (by simp)
        (State.participates_of_line (by simp))) _

theorem Frozen.transmitErrorOn (h : Frozen s) (kind : ErrorKind) (a : Attempt) (hp : s.participates l = true) :
    Frozen (s.transmitErrorOn l kind a) := by
  have hnoted : Frozen (s.errorNoted l kind) := (h.withEngine (l := l) _).noteError kind
  by_cases hf : (s.line.get l).failsOff kind
  · rw [State.transmitErrorOn_off s l kind a hf]
    have hended := (hnoted.emptyBuffer (l := l)).report a .abortOff (l := l)
    unfold State.enterOff
    dsimp only
    refine Frozen.raise (Frozen.raise ?_ _) _
    refine FrozenBy.lineStateReport (FrozenBy.same hended rfl rfl) ?_ ?_
    · simp [State.usable, State.mode]
    · exact State.usable_eq (State.participates_of_line (by simp)) rfl rfl
  · rw [State.transmitErrorOn_counts s l kind a hf]
    exact ((hnoted.withCounts ((s.participates_errorNoted l kind l).trans hp) _ _).emptyBuffer).report a .error

theorem Frozen.watchExpires (h : Frozen s) : Frozen (s.watchExpires l) := by
  have hresume : ∀ x : State, Frozen x → Frozen (x.resume l) := by
    intro x hx
    unfold State.resume
    split
    · exact hx.of_same rfl rfl (fun _ => rfl) fun m => by obtain rfl | rfl := LineId.eq_or_other l m <;> simp
    · exact hx
  unfold State.watchExpires
  dsimp only
  refine hresume _ (FrozenBy.deliverUsability (u := s.usable) (FrozenBy.same h (by simp) (by simp)) ?_)
  exact State.usable_eq (State.participates_of_line (by simp)) (by simp [State.mode]) (by simp)

/-! ### Every event -/

/-- Without entries nothing is FROZEN or ought to be. -/
theorem frozen_vacant (h : s.Vacant) : Frozen s := fun i e he => by
  rw [h i] at he
  cases he

/-- R12: a new entry starts by the usability of its home line. -/
theorem Frozen.claim {i : Index} (h : Frozen s) (e : Entry) :
    Frozen (s.setEntry i { e with state := s.initialState i e.kind }) := by
  refine FrozenBy.setEntry h fun hk => ?_
  have hk : e.kind ≠ .output := hk
  unfold State.initialState
  cases hu : s.usable (s.home i) <;> simp [hk, hu]

theorem Frozen.request (h : Frozen s) (ht : RequestLeaves s t) : Frozen t := by
  cases ht with
  | same => exact h
  | claim op i e => exact h.claim e
  | empty i => exact FrozenBy.emptyEntry h
  | edit i e x he hx => exact FrozenBy.edit h he hx.sameFrost
  | take i rest =>
    exact (FrozenBy.takeHead h rest).frozen fun m => by
      unfold State.takeHead
      split <;> rfl
  | takeNone => exact h.servicePins s
  | ackEvents => exact h
  | join l hl =>
    exact h.of_line (t := s.startJoin l) (l := l) rfl rfl rfl (by simp [State.startJoin])
      (by simp [State.participates, State.startJoin, hl, LineState.participates])
  | rejoin l =>
    exact h.of_line (t := s.withLine l _) (l := l) rfl rfl rfl (by simp) (State.participates_of_line (by simp))
  | detach l => exact h.detachLine.judgePins
  | settingWrite => exact h
  | apply => exact h.applyStaged.judgePins
  | clear =>
    rw [State.clearPart_eq]
    exact ((frozen_vacant s.cleared_vacant).notice.notice).servicePins s

end

theorem frozen_keptByEvents : KeptByEvents Frozen where
  outside := fun _ _ _ _ h => h
  reset := frozen_vacant fun i => Directory.get_empty i
  request := fun _ _ h ht => h.request ht
  bit := fun _ _ h => h.withEngine _
  frame := fun s l w h hc _ => (h.withEngine (l := l) (.intermission 0)).takeFrame ((canReceive_iff s l).mp hc).1 w
  query := fun s l w h hq => by
    obtain ⟨a, ha⟩ := Option.ne_none_iff_exists'.mp ((queriedInFlight_iff s l w).mp hq).1
    exact h.takeFrame ((sendingAttempt_iff s l a).mp ha).1 w
  receiveError := fun s l kind h hc =>
    (((h.withEngine (l := l) _).noteError kind).withCounts
      ((participates_noteError (s.withEngine l _) l kind l).trans ((canReceive_iff s l).mp hc).1) _ _).judgePins
  selection := fun s l a h _ => (FrozenBy.copyFrame h a).frozen fun m =>
    State.usable_eq (by
      obtain rfl | rfl := LineId.eq_or_other l m
      · exact State.participates_of_line (by rw [State.line_copyFrame])
      · exact State.participates_of_line (by simp)) (by simp [State.mode]) (by simp)
  success := fun s l a h ha =>
    (((h.withEngine (l := l) _).withCounts ((sendingAttempt_iff s l a).mp ha).1 _ _).emptyBuffer.report a
      .success).judgePins
  loss := fun s l a bits h _ => ((h.withEngine (l := l) (.receiving bits)).emptyBuffer.report a .loss).judgePins
  transmitError := fun s l kind a h ha _ => (h.transmitErrorOn kind a ((sendingAttempt_iff s l a).mp ha).1).judgePins
  idleSequence := fun _ _ h _ => h.idleSequenceOn.judgePins
  period := fun s l h _ => h.of_same (t := s.periodExpires l) rfl rfl (fun _ => rfl) fun m => by
    obtain rfl | rfl := LineId.eq_or_other l m <;> simp [State.periodExpires]
  watch := fun _ _ h _ => h.watchExpires.judgePins
  window := fun _ _ h _ => h

/-- Settles O54: every change of a line's usability reaches the directory with the event that makes it. -/
theorem frozenFollowsUsability : Obligations.FrozenFollowsUsability := fun s t h ht =>
  (frozen_iff t).mp (frozen_keptByEvents.step ((frozen_iff s).mpr h) ht)

end Sys2Proof.Machine

/-! PROOFS. Steps, resets, and the host port's transactions (R20, R170 to R174, R179). -/

namespace Sys2Proof.Machine

open Sys2Proof.Safety

/-- Settles O1: the front command runs on the state with the queue's rest, which is the state itself. -/
theorem stepRunsFront : Obligations.StepRunsFront := fun _ _ => rfl

/-! ### Resets -/

/-- The samples, the commands and the port are no block of the part. -/
theorem AtDefaults.withOutside {s : State} (h : AtDefaults s) (port : HostPort) (samples : List LineBit)
    (pending : List Instr) : AtDefaults (s.withOutside port samples pending) where
  entries := h.entries
  queue := h.queue
  line := h.line
  engine := h.engine
  cycle := h.cycle
  flags := h.flags
  pins := h.pins
  items := h.items
  banks := h.banks
  routes := h.routes
  staged := h.staged
  noSet := h.noSet

theorem atDefaults_reset : AtDefaults State.reset where
  entries := Directory.get_empty
  queue := rfl
  line := fun l => by cases l <;> rfl
  engine := fun l => by cases l <;> rfl
  cycle := fun l => by cases l <;> rfl
  flags := fun f => by
    cases f with
    | ofLine l f => cases l <;> cases f <;> rfl
    | _ => rfl
  pins := fun p => by cases p <;> rfl
  items := fun l => by cases l <;> rfl
  banks := rfl
  routes := fun f => by
    cases f with
    | ofLine l f => cases l <;> cases f <;> rfl
    | _ => rfl
  staged := rfl
  noSet := rfl

/-- Settles O3: each reset leaves the reset state but for the port and the outside's queues. -/
theorem resetsGiveDefaults : Obligations.ResetsGiveDefaults := by
  have hreset := fun (s : State) port => AtDefaults.withOutside atDefaults_reset port s.samples s.pending
  exact ⟨atDefaults_reset, fun s => ⟨_, rfl, hreset s _, rfl, rfl, rfl, rfl, rfl⟩,
    fun s => ⟨_, rfl, hreset s _, rfl, rfl, rfl⟩, fun ncsLow s => ⟨_, rfl, hreset s _, rfl, rfl, rfl, rfl, rfl⟩⟩

/-- Settles O50, by the invariants' own proofs at reset. -/
theorem invariantsHoldAtReset : Obligations.InvariantsHoldAtReset := by
  have hlines := (linesFit_iff State.reset).mp linesFit_keptByEvents.reset
  refine ⟨fun l => ⟨(hlines l).1, (hlines l).2, (unitsFit_iff _).mp unitsFit_reset l⟩,
    (flying_iff _).mp flying_reset, entriesFit_keptByDirectory.keptByEvents.reset, frozen_keptByEvents.reset,
    guardHolds_keptByDirectory.keptByEvents.reset, queueAgrees_keptByDirectory.keptByEvents.reset, pinsAgree_reset,
    copiesFit_keptBySettings.reset, setWaits_keptBySettings.reset, resetHeld_high rfl, Nat.zero_le _⟩

/-! ### A shut port -/

section
variable {s : State} {edges : Nat} {judged : State → State × Response}

theorem State.transaction_inReset (h : s.port.inReset = true) : s.transaction edges judged = s := by
  unfold State.transaction
  rw [if_pos h]

theorem State.transaction_awaiting (h : s.port.inReset = false) (hw : s.port.awaitRise = true) :
    s.transaction edges judged = s.endWait := by
  unfold State.transaction
  rw [if_neg (by rw [h]; exact Bool.false_ne_true), if_pos hw]

/-- R171: a transaction at an open port. -/
theorem State.transaction_open (h : PortOpen s) :
    s.transaction edges judged = (judged (s.shift edges)).1.hold (judged (s.shift edges)).2 := by
  unfold State.transaction
  rw [if_neg (by rw [h.1]; exact Bool.false_ne_true), if_neg (by rw [h.2]; exact Bool.false_ne_true)]

theorem State.noTransaction_inReset (h : s.port.inReset = true) : s.noTransaction = s := by
  unfold State.noTransaction
  rw [if_pos h]

theorem State.noTransaction_awaiting (h : s.port.inReset = false) (hw : s.port.awaitRise = true) :
    s.noTransaction = s.endWait := by
  unfold State.noTransaction
  rw [if_neg (by rw [h]; exact Bool.false_ne_true), if_pos hw]

theorem State.noTransaction_open (h : PortOpen s) : s.noTransaction = s := by
  unfold State.noTransaction
  rw [if_neg (by rw [h.1]; exact Bool.false_ne_true), if_neg (by rw [h.2]; exact Bool.false_ne_true)]

/-- R170, R174: bytes with or without an edge, at a port that is shut. -/
theorem State.rawTransaction_inReset (h : s.port.inReset = true) (bytes : List Byte) (extra : Nat) :
    s.rawTransaction bytes extra = s := by
  unfold State.rawTransaction
  split
  · exact State.noTransaction_inReset h
  · exact State.transaction_inReset h

theorem State.rawTransaction_awaiting (h : s.port.inReset = false) (hw : s.port.awaitRise = true)
    (bytes : List Byte) (extra : Nat) : s.rawTransaction bytes extra = s.endWait := by
  unfold State.rawTransaction
  split
  · exact State.noTransaction_awaiting h hw
  · exact State.transaction_awaiting h hw

end

theorem exec_hostRequest_shut {c : Instr} {r : Request} {n : Nat} {s t : State} (hc : requestOf c = some (r, n))
    (h : ∀ edges judged, s.transaction edges judged = t) : exec c s = .next t := by
  rw [exec_request c r n s hc]
  unfold State.hostRequest
  rw [h]

theorem exec_transactionRejected (bytes : List Byte) (edges : Fin 8) (s : State) :
    exec (.transactionRejected bytes edges) s = .next (s.rawTransaction bytes edges.val) := rfl

/-- Settles O4: a shut port takes no transaction, and one that waits for a rise takes it as that rise. -/
theorem resetShutsPort : Obligations.ResetShutsPort := by
  refine ⟨fun c r n s hc h => ?_, fun bytes edges s h => ?_, fun s h => ?_, fun c r n s hc h hw => ?_,
    fun bytes edges s h hw => ?_, fun s h hw => ?_⟩
  · exact exec_hostRequest_shut hc fun _ _ => State.transaction_inReset h
  · exact congrArg _ (State.rawTransaction_inReset h bytes edges.val)
  · exact ⟨congrArg _ (State.noTransaction_inReset h), congrArg _ (State.noTransaction_inReset h)⟩
  · exact exec_hostRequest_shut hc fun _ _ => State.transaction_awaiting h hw
  · exact congrArg _ (State.rawTransaction_awaiting h hw bytes edges.val)
  · exact ⟨congrArg _ (State.noTransaction_awaiting h hw), congrArg _ (State.noTransaction_awaiting h hw)⟩

/-! ### The bytes of a request -/

/-- Eight bytes listed and read again. -/
theorem vector_eight (v : Vector Byte 8) :
    ∃ b0 b1 b2 b3 b4 b5 b6 b7, v.toList = [b0, b1, b2, b3, b4, b5, b6, b7] ∧ #v[b0, b1, b2, b3, b4, b5, b6, b7] = v :=
  ⟨v[0], v[1], v[2], v[3], v[4], v[5], v[6], v[7], by
    apply List.ext_getElem
    · simp
    · intro k h1 h2
      have hk : k < 8 := by simpa using h1
      interval_cases k <;> simp, by
    ext k hk
    interval_cases k <;> rfl⟩

theorem decode_encode (r : Request) (filler : List Byte) : decodeRequest (encodeRequest r ++ filler) = some r := by
  cases r with
  | claim op =>
    show some (Request.claim _) = _
    simp only [word16_bytes]
  | lookup l side tag =>
    show some (Request.lookup l side _) = _
    rw [word16_bytes]
  | set i n v =>
    obtain ⟨b0, b1, b2, b3, b4, b5, b6, b7, hlist, hv⟩ := vector_eight v
    subst hv
    rfl
  | settingWrite item v =>
    show some (Request.settingWrite item _) = _
    rw [word16_bytes]
  | _ => rfl

theorem requestLength_code (r : Request) : requestLength r.code = some r.length := by
  cases r with
  | set i n v =>
    show some 11 = some (v.toList.length + 2 + 1)
    simp
  | _ => rfl

/-- Settles O7, request by request. -/
theorem requestBytesDecode : Obligations.RequestBytesDecode := fun r filler => ⟨decode_encode r filler, requestLength_code r⟩

/-- R172: the judgement of a request's bytes. -/
theorem judgeBytes_request (r : Request) (filler : List Byte) (s : State) :
    judgeBytes (encodeRequest r ++ filler) 0 s =
      if r.length + filler.length = s.requiredLength r.length then takeRequest r s else notTaken .framing s := by
  have hlength : (encodeRequest r ++ filler).length = r.length + filler.length := List.length_append
  have hdecode := decode_encode r filler
  rw [← hlength]
  show judgeBytes (r.code :: (r.operandBytes ++ filler)) 0 s = _
  unfold judgeBytes
  simp only [requestLength_code, show decodeRequest (r.code :: (r.operandBytes ++ filler)) = some r from hdecode]
  rfl

/-- Settles O6: bytes are judged as the request that they spell. -/
theorem bytesAreTheirRequest : Obligations.BytesAreTheirRequest := by
  intro c r filler s hc
  have hlength : (encodeRequest r ++ filler).length = r.length + filler.length := List.length_append
  have hpos : 8 * (encodeRequest r ++ filler).length + 0 ≠ 0 := by
    rw [hlength]
    have : r.length = r.operandBytes.length + 1 := rfl
    omega
  rw [exec_request c r filler.length s hc, exec_transactionRejected]
  unfold State.rawTransaction State.hostRequest
  show Host.Outcome.next (if 8 * (encodeRequest r ++ filler).length + 0 = 0 then _ else _) = _
  rw [if_neg hpos, hlength]
  have hjudge : judgeBytes (encodeRequest r ++ filler) 0 = fun s1 =>
      if r.length + filler.length = s1.requiredLength r.length then takeRequest r s1 else notTaken .framing s1 :=
    funext (judgeBytes_request r filler)
  show Host.Outcome.next (s.transaction _ (judgeBytes (encodeRequest r ++ filler) 0)) = _
  rw [hjudge]
  rfl

/-! ### Transactions not taken -/

/-- R172: what is not taken reaches no block. -/
theorem exec_rejected {s : State} (h : PortOpen s) {bytes : List Byte} {edges : Fin 8} {status : Status}
    (hpos : 8 * bytes.length + edges.val ≠ 0)
    (hj : ∀ x : State, x.port.held = s.port.held → judgeBytes bytes edges.val x = notTaken status x) :
    exec (.transactionRejected bytes edges) s =
      .next (responded s s (8 * bytes.length + edges.val) status []) := by
  rw [exec_transactionRejected]
  unfold State.rawTransaction
  rw [if_neg hpos, State.transaction_open h, hj (s.shift _) rfl]
  rfl

theorem judgeBytes_edges {bytes : List Byte} {extra : Nat} (h : extra ≠ 0) (s : State) :
    judgeBytes bytes extra s = notTaken .framing s := by
  unfold judgeBytes
  split
  · exact absurd rfl h
  · rfl

theorem judgeBytes_noCode {code : Byte} (h : requestLength code = none) (rest : List Byte) (s : State) :
    judgeBytes (code :: rest) 0 s = notTaken .badRequest s := by
  unfold judgeBytes
  simp only [h]

theorem judgeBytes_badLength {code : Byte} {rest : List Byte} {n : Nat} (h : requestLength code = some n) {s : State}
    (hn : rest.length + 1 ≠ s.requiredLength n) : judgeBytes (code :: rest) 0 s = notTaken .framing s := by
  unfold judgeBytes
  simp only [h]
  cases decodeRequest (code :: rest) with
  | none => rfl
  | some r => exact if_neg hn

/-- Settles O5, by R172's cases in their order. -/
theorem untakenTransactionsChangeNothing : Obligations.UntakenTransactionsChangeNothing := by
  refine ⟨fun s h => congrArg _ (State.noTransaction_open h), fun c r n s hc h hl => ?length,
    fun bytes edges s h he => ?edges, fun code rest s h hcode => ?noCode, fun code rest n s h hcode hn => ?badLength⟩
  case length =>
    have hno : ¬ r.length + n = (s.shift (8 * (r.length + n))).requiredLength r.length := hl
    rw [exec_request c r n s hc]
    unfold State.hostRequest
    rw [State.transaction_open h]
    simp only [if_neg hno]
    rfl
  case edges =>
    have hne : edges.val ≠ 0 := fun h0 => he (Fin.ext h0)
    exact exec_rejected h (by omega) fun x _ => judgeBytes_edges hne x
  case noCode => exact exec_rejected h (by simp) fun x _ => judgeBytes_noCode hcode rest x
  case badLength =>
    refine exec_rejected h (by simp) fun x hx => judgeBytes_badLength hcode ?_
    have hsame : x.requiredLength n = s.requiredLength n := by
      unfold State.requiredLength
      rw [hx]
    rw [hsame]
    exact hn

end Sys2Proof.Machine

/-! PROOFS. What the part does with no command waiting, and one line bit at an engine in each phase (R94, R101 to R104,
R110, R112, R113). -/

namespace Sys2Proof.Machine

open Sys2Proof.Safety

section
variable {s : State} {x : LineBit} {phase : Phase} {reports : List Instr}

/-- A line bit taken, by what its engine makes of it. -/
theorem takesBit_of (h : bitAt x.line (s.engine.get x.line) (s.line.get x.line).attempt x = ⟨phase, reports⟩) :
    TakesBit s x phase reports := by
  have hbit := takesBit s x
  rw [h] at hbit
  exact hbit

theorem step_selects_a (hp : s.pending = []) (ha : s.selection .a ≠ none) :
    step s = .next { s with pending := [.transmitSelection .a] } := by
  unfold step
  rw [hp]
  unfold State.idleStep
  rw [if_pos (Option.isSome_iff_ne_none.mpr ha)]
  rfl

theorem step_selects_b (hp : s.pending = []) (ha : s.selection .a = none) (hb : s.selection .b ≠ none) :
    step s = .next { s with pending := [.transmitSelection .b] } := by
  unfold step
  rw [hp]
  unfold State.idleStep
  rw [ha, if_neg (by simp), if_pos (Option.isSome_iff_ne_none.mpr hb)]
  rfl

theorem step_idles (hp : s.pending = []) (ha : s.selection .a = none) (hb : s.selection .b = none)
    (hs : s.samples = []) : step s = .next s := by
  unfold step
  rw [hp]
  simp only [State.idleStep, ha, hb, hs]
  rfl

end

/-! ### One bit in each phase -/

section
variable (l : LineId) (x : LineBit) (k : Nat) (attempt : Option Attempt)

/-- R101, R129: RECOVERING counts recessive bits toward an idle sequence. -/
theorem bitAt_recovering :
    bitAt l (.recovering k) attempt x =
      ⟨.recovering (if x.level = true ∧ k + 1 ≠ 12 then k + 1 else 0),
        if x.level = true ∧ k + 1 = 12 then [.idleSequence l] else []⟩ := by
  cases hx : x.level with
  | false => simp [bitAt, hx]
  | true =>
    by_cases hk : k + 1 = 12
    · simp [bitAt, hx, countIdle, hk]
    · simp [bitAt, hx, countIdle, hk]

theorem bitAt_idle_recessive (hx : x.level = true) :
    bitAt l (.idle k) none x =
      ⟨.idle (if k + 1 = 12 then 0 else k + 1), if k + 1 = 12 then [.idleSequence l] else []⟩ := by
  by_cases hk : k + 1 = 12
  · simp [bitAt, idleBit, hx, countIdle, hk]
  · simp [bitAt, idleBit, hx, countIdle, hk]

/-- R94, R113: FLAGGING waits, sends its bits and passes to the delimiter. -/
theorem bitAt_flagging (active : Bool) (wait sent : Nat) :
    bitAt l (.flagging active wait sent) attempt x =
      ⟨if wait ≠ 0 then .flagging active (wait - 1) sent
        else if sent + 1 = 8 then .recovering 0 else .flagging active 0 (sent + 1), []⟩ := by
  cases wait with
  | succ w => rfl
  | zero =>
    by_cases hs : sent + 1 = 8
    · simp [bitAt, flagBit, hs]
    · simp [bitAt, flagBit, hs]

end

section
variable (l : LineId) (a : Attempt) (bits : List Bool)

/-- R104, R106: a sender that has lost reports the loss, and what it reads as a receiver. -/
theorem senderReport_lost (h : senderVerdict a.frame.wire bits = .lost) :
    senderReport l a bits = .arbitrationLoss l :: receiverReport l bits := by
  unfold senderReport
  rw [h]

theorem receiverReport_more (h : receiverVerdict bits = .more) : receiverReport l bits = [] := by
  unfold receiverReport
  rw [h]

theorem receiverReport_error {kind : ErrorKind} (h : receiverVerdict bits = .error kind) :
    receiverReport l bits = [.receiveError l kind] := by
  unfold receiverReport
  rw [h]

theorem receiverReport_complete (h : receiverVerdict bits = .complete) :
    receiverReport l bits = [frameCommand l (readFrame bits)] := by
  unfold receiverReport
  rw [h]

end

/-- One bit at a SENDING engine. -/
theorem takesBit_sending {s : State} {x : LineBit} {bits : List Bool} {a : Attempt}
    (he : s.engine.get x.line = .sending bits) (ha : (s.line.get x.line).attempt = some a) {reports : List Instr}
    (hr : senderReport x.line a (bits ++ [x.level]) = reports) :
    TakesBit s x (.sending (bits ++ [x.level])) reports := by
  refine takesBit_of ?_
  rw [he, ha, ← hr]
  rfl

/-- One bit at a RECEIVING engine with a record. -/
theorem takesBit_receiving {s : State} {x : LineBit} {bits : List Bool}
    (he : s.engine.get x.line = .receiving (some bits)) {reports : List Instr}
    (hr : receiverReport x.line (bits ++ [x.level]) = reports) :
    TakesBit s x (.receiving (some (bits ++ [x.level]))) reports := by
  refine takesBit_of ?_
  rw [he, ← hr]
  rfl

/-- Settles O2: a selection first, Line A's before Line B's, then one bit, by the phase of its engine. -/
theorem emptyQueueGoesOn : Obligations.EmptyQueueGoesOn := by
  refine ⟨fun s => step_selects_a, fun s => step_selects_b, fun s => step_idles, fun s x => ⟨fun he => ?stopped,
    fun k he => ?recovering, fun k he ha => ⟨fun hx => ?idleDominant, fun hx => ?idleRecessive⟩,
    fun k he ha => ⟨fun hd => ?collision, fun hd hx => ?begins, fun hd hx => ?startError⟩,
    fun k he => ⟨fun hx => ?interrupted, fun hx hk => ?intermission, fun hx hk => ?intermissionEnds⟩,
    fun active wait sent he => ?flagging,
    fun bits a he ha => ⟨fun hv => ?sends, fun kind hv => ?sendError, fun hv => ?sent, fun hv hr => ?loses,
      fun kind hv hr => ?losesInError⟩,
    fun he => ?noRecord, fun bits he => ⟨fun hv => ?reads, fun kind hv => ?readError, fun hv hlegal => ?read⟩⟩⟩
  case stopped => exact takesBit_of (by rw [he]; rfl)
  case recovering => exact takesBit_of (by rw [he, bitAt_recovering])
  case idleDominant => exact takesBit_of (by rw [he, ha]; simp [bitAt, idleBit, hx])
  case idleRecessive => exact takesBit_of (by rw [he, ha, bitAt_idle_recessive _ _ _ hx])
  case collision =>
    obtain ⟨a, ha⟩ := Option.ne_none_iff_exists'.mp ha
    exact takesBit_of (by rw [he, ha]; simp [bitAt, idleBit, hd])
  case begins =>
    obtain ⟨a, ha⟩ := Option.ne_none_iff_exists'.mp ha
    exact takesBit_of (by rw [he, ha]; simp [bitAt, idleBit, hd, hx])
  case startError =>
    obtain ⟨a, ha⟩ := Option.ne_none_iff_exists'.mp ha
    exact takesBit_of (by rw [he, ha]; simp [bitAt, idleBit, hd, hx])
  case interrupted => exact takesBit_of (by rw [he]; simp [bitAt, hx])
  case intermission => exact takesBit_of (by rw [he]; simp [bitAt, hx, hk])
  case intermissionEnds => exact takesBit_of (by rw [he]; simp [bitAt, hx, hk])
  case flagging => exact takesBit_of (by rw [he, bitAt_flagging])
  case sends => exact takesBit_sending he ha (by rw [senderReport, hv])
  case sendError => exact takesBit_sending he ha (by rw [senderReport, hv])
  case sent => exact takesBit_sending he ha (by rw [senderReport, hv])
  case loses => exact takesBit_sending he ha (by rw [senderReport_lost _ _ _ hv, receiverReport_more _ _ hr])
  case losesInError => exact takesBit_sending he ha (by rw [senderReport_lost _ _ _ hv, receiverReport_error _ _ hr])
  case noRecord => exact takesBit_of (by rw [he]; rfl)
  case reads => exact takesBit_receiving he (receiverReport_more _ _ hv)
  case readError => exact takesBit_receiving he (receiverReport_error _ _ hv)
  case read =>
    exact ⟨_, frameOf_frameCommand x.line _ hlegal, takesBit_receiving he (receiverReport_complete _ _ hv)⟩

end Sys2Proof.Machine

/-! PROOFS. The directory's CLAIM (R9 to R12). -/

namespace Sys2Proof.Machine

open Sys2Proof.Safety

/-! ### The operands -/

theorem toNat_ne_of_ne {b : Byte} {k : Nat} (hk : k < 256) (h : b ≠ BitVec.ofNat 8 k) : b.toNat ≠ k := fun hb =>
  h (BitVec.eq_of_toNat_eq (by rw [hb, BitVec.toNat_ofNat, Nat.mod_eq_of_lt hk]))

theorem selectorOperand_none_iff (b : Byte) :
    selectorOperand b = none ↔ (b.toNat < 128 ∧ 63 < b.toNat) ∨ 131 < b.toNat := by
  have hb := b.isLt
  unfold selectorOperand
  dsimp only
  split
  · split
    next h => exact iff_of_false nofun (by omega)
    next h => exact iff_of_true rfl (by omega)
  · split
    next h => exact iff_of_false nofun (by omega)
    next h => exact iff_of_true rfl (by omega)

theorem selectorOperand_explicit {b : Byte} {i : Index} (h : b.toNat = i.val) :
    selectorOperand b = some (.explicit i) := by
  have hi := i.isLt
  have hmod : b.toNat % 128 = i.val := by omega
  unfold selectorOperand
  dsimp only
  rw [if_pos (by omega), dif_pos (by omega)]
  exact congrArg (fun x => some (Selector.explicit x)) (Fin.ext hmod)

theorem selectorOperand_bank {b : Byte} {k : Fin 4} (h : b.toNat = 128 + k.val) :
    selectorOperand b = some (.lowestFree k) := by
  have hk := k.isLt
  have hmod : b.toNat % 128 = k.val := by omega
  unfold selectorOperand
  dsimp only
  rw [if_neg (by omega), dif_pos (by omega)]
  exact congrArg (fun x => some (Selector.lowestFree x)) (Fin.ext hmod)

/-- R9: what the operands of a kind must satisfy. -/
def KindOperandsBad (op : ClaimOperands) : Prop :=
  (op.kind ≠ 1 ∧ op.kind ≠ 2 ∧ op.kind ≠ 3) ∨ op.tag.setWidth 12 = (0 : Tag) ∨
  (op.kind = 3 ∧ op.outTag.setWidth 12 = (0 : Tag)) ∨
  (op.kind ≠ 2 ∧ (op.confirm.toNat < 1 ∨ 4 < op.confirm.toNat)) ∨
  (op.kind = 2 ∧ 2 < op.mode.toNat) ∨
  (op.kind = 2 ∧ op.mode = 1 ∧
    ((op.period ≠ 1 ∧ op.period ≠ 2 ∧ op.period ≠ 4 ∧ op.period ≠ 8 ∧ op.period ≠ 16) ∨
      op.period.toNat ≤ op.phase.toNat))

theorem scheduleLegal_iff (period phase : Byte) :
    scheduleLegal period.toNat phase.toNat = true ↔
      ¬ ((period ≠ 1 ∧ period ≠ 2 ∧ period ≠ 4 ∧ period ≠ 8 ∧ period ≠ 16) ∨ period.toNat ≤ phase.toNat) := by
  unfold scheduleLegal
  simp only [Bool.and_eq_true, Bool.or_eq_true, beq_iff_eq, decide_eq_true_eq]
  bv_omega

theorem kindOperand_cases (b : Byte) :
    (b = 1 ∧ kindOperand b = some .input) ∨ (b = 2 ∧ kindOperand b = some .output) ∨
      (b = 3 ∧ kindOperand b = some .bridge) ∨ ((b ≠ 1 ∧ b ≠ 2 ∧ b ≠ 3) ∧ kindOperand b = none) := by
  by_cases h1 : b = 1
  · exact .inl ⟨h1, by rw [h1]; rfl⟩
  by_cases h2 : b = 2
  · exact .inr (.inl ⟨h2, by rw [h2]; rfl⟩)
  by_cases h3 : b = 3
  · exact .inr (.inr (.inl ⟨h3, by rw [h3]; rfl⟩))
  refine .inr (.inr (.inr ⟨⟨h1, h2, h3⟩, ?_⟩))
  unfold kindOperand
  split
  next h => exact absurd h (toNat_ne_of_ne (by decide) h1)
  next h => exact absurd h (toNat_ne_of_ne (by decide) h2)
  next h => exact absurd h (toNat_ne_of_ne (by decide) h3)
  next => rfl

theorem modeOperand_cases (b : Byte) :
    (b = 0 ∧ modeOperand b = some .onChange) ∨ (b = 1 ∧ modeOperand b = some .periodic) ∨
      (b = 2 ∧ modeOperand b = some .onQuery) ∨ (2 < b.toNat ∧ modeOperand b = none) := by
  by_cases h0 : b = 0
  · exact .inl ⟨h0, by rw [h0]; rfl⟩
  by_cases h1 : b = 1
  · exact .inr (.inl ⟨h1, by rw [h1]; rfl⟩)
  by_cases h2 : b = 2
  · exact .inr (.inr (.inl ⟨h2, by rw [h2]; rfl⟩))
  have hn0 : b.toNat ≠ 0 := toNat_ne_of_ne (by decide) h0
  have hn1 : b.toNat ≠ 1 := toNat_ne_of_ne (by decide) h1
  have hn2 : b.toNat ≠ 2 := toNat_ne_of_ne (by decide) h2
  refine .inr (.inr (.inr ⟨by omega, ?_⟩))
  unfold modeOperand
  split
  next h => exact absurd h hn0
  next h => exact absurd h hn1
  next h => exact absurd h hn2
  next => rfl

section
variable {op : ClaimOperands}

theorem claimedEntry_input (hk : op.kind = 1) (ht : op.tag.setWidth 12 ≠ (0 : Tag)) :
    claimedEntry op =
      if 1 ≤ op.confirm.toNat ∧ op.confirm.toNat ≤ 4 then
        some { Entry.blank .input (op.tag.setWidth 12) (op.options.getLsbD 0) with
          mask := op.mask.setWidth 12, confirm := op.confirm.toNat, refresh := op.refresh.toNat }
      else none := by
  have hkind : kindOperand op.kind = some .input := by rw [hk]; rfl
  unfold claimedEntry
  simp only [tagOperand, if_neg ht, hkind, Bool.and_eq_true, decide_eq_true_eq]

theorem claimedEntry_bridge (hk : op.kind = 3) (ht : op.tag.setWidth 12 ≠ (0 : Tag)) :
    claimedEntry op =
      if (1 ≤ op.confirm.toNat ∧ op.confirm.toNat ≤ 4) ∧ op.outTag.setWidth 12 ≠ (0 : Tag) then
        some { Entry.blank .bridge (op.tag.setWidth 12) (op.options.getLsbD 0) with
          mask := op.mask.setWidth 12, outTag := op.outTag.setWidth 12, confirm := op.confirm.toNat,
          refresh := op.refresh.toNat, answersRecall := op.options.getLsbD 2 }
      else none := by
  have hkind : kindOperand op.kind = some .bridge := by rw [hk]; rfl
  unfold claimedEntry
  simp only [tagOperand, if_neg ht, hkind, Bool.and_eq_true, decide_eq_true_eq, bne_iff_ne]

/-- R12: the OUTPUT entry of a CLAIM, without its mode. -/
def claimedOutput (op : ClaimOperands) : Entry :=
  { Entry.blank .output (op.tag.setWidth 12) (op.options.getLsbD 0) with
    oneShot := op.options.getLsbD 1, answersRecall := op.options.getLsbD 2 }

theorem claimedEntry_output (hk : op.kind = 2) (ht : op.tag.setWidth 12 ≠ (0 : Tag)) :
    claimedEntry op =
      match modeOperand op.mode with
      | none => none
      | some .periodic =>
        if scheduleLegal op.period.toNat op.phase.toNat then
          some { claimedOutput op with mode := .periodic, period := op.period.toNat, phase := op.phase.toNat }
        else none
      | some m => some { claimedOutput op with mode := m } := by
  have hkind : kindOperand op.kind = some .output := by rw [hk]; rfl
  unfold claimedEntry
  simp only [tagOperand, if_neg ht, hkind]
  rfl

theorem kindOperandsBad_input (hk : op.kind = 1) (ht : op.tag.setWidth 12 ≠ (0 : Tag)) :
    KindOperandsBad op ↔ ¬ (1 ≤ op.confirm.toNat ∧ op.confirm.toNat ≤ 4) := by
  have hbad : (op.confirm.toNat < 1 ∨ 4 < op.confirm.toNat) ↔ ¬ (1 ≤ op.confirm.toNat ∧ op.confirm.toNat ≤ 4) := by omega
  unfold KindOperandsBad
  rw [hk, hbad]
  simp [show ¬ op.tag.setWidth 12 = 0#12 from ht]

theorem kindOperandsBad_bridge (hk : op.kind = 3) (ht : op.tag.setWidth 12 ≠ (0 : Tag)) :
    KindOperandsBad op ↔
      ¬ ((1 ≤ op.confirm.toNat ∧ op.confirm.toNat ≤ 4) ∧ op.outTag.setWidth 12 ≠ (0 : Tag)) := by
  have hbad : (op.confirm.toNat < 1 ∨ 4 < op.confirm.toNat) ↔ ¬ (1 ≤ op.confirm.toNat ∧ op.confirm.toNat ≤ 4) := by omega
  unfold KindOperandsBad
  rw [hk, hbad]
  by_cases hout : op.outTag.setWidth 12 = (0 : Tag)
  · simp [show op.outTag.setWidth 12 = 0#12 from hout]
  · simp [show ¬ op.tag.setWidth 12 = 0#12 from ht, show ¬ op.outTag.setWidth 12 = 0#12 from hout]

theorem kindOperandsBad_output (hk : op.kind = 2) (ht : op.tag.setWidth 12 ≠ (0 : Tag)) :
    KindOperandsBad op ↔
      2 < op.mode.toNat ∨ (op.mode = 1 ∧ ¬ scheduleLegal op.period.toNat op.phase.toNat = true) := by
  rw [scheduleLegal_iff, not_not]
  unfold KindOperandsBad
  rw [hk]
  simp [show ¬ op.tag.setWidth 12 = 0#12 from ht]

/-- R9: CLAIM's operands are refused, or describe an entry. -/
theorem claimedEntry_none (h : KindOperandsBad op) : claimedEntry op = none := by
  by_cases ht : op.tag.setWidth 12 = (0 : Tag)
  · unfold claimedEntry
    exact if_pos ht
  obtain ⟨hk, _⟩ | ⟨hk, _⟩ | ⟨hk, _⟩ | ⟨_, hk⟩ := kindOperand_cases op.kind
  · rw [claimedEntry_input hk ht, if_neg ((kindOperandsBad_input hk ht).mp h)]
  · rw [claimedEntry_output hk ht]
    obtain ⟨hm, hmode⟩ | ⟨hm, hmode⟩ | ⟨hm, hmode⟩ | ⟨_, hmode⟩ := modeOperand_cases op.mode
    all_goals simp only [hmode]
    · exact absurd ((kindOperandsBad_output hk ht).mp h) (by simp [hm])
    · obtain hlarge | ⟨_, hschedule⟩ := (kindOperandsBad_output hk ht).mp h
      · rw [hm] at hlarge
        exact absurd hlarge (by decide)
      · exact if_neg hschedule
    · exact absurd ((kindOperandsBad_output hk ht).mp h) (by simp [hm])
  · rw [claimedEntry_bridge hk ht, if_neg ((kindOperandsBad_bridge hk ht).mp h)]
  · unfold claimedEntry
    simp only [tagOperand, if_neg ht, hk]

/-- R12: the described entry, started at an index. -/
theorem claimedEntry_starts (h : ¬ KindOperandsBad op) (s : State) (i : Index) :
    ∃ e, claimedEntry op = some e ∧ { e with state := s.initialState i e.kind } = newEntry s i op := by
  have ht : op.tag.setWidth 12 ≠ (0 : Tag) := fun ht => h (.inr (.inl ht))
  obtain ⟨hk, _⟩ | ⟨hk, _⟩ | ⟨hk, _⟩ | ⟨hk, _⟩ := kindOperand_cases op.kind
  · rw [claimedEntry_input hk ht, if_pos (not_not.mp (mt (kindOperandsBad_input hk ht).mpr h))]
    refine ⟨_, rfl, ?_⟩
    cases hu : s.usable (s.home i) <;> simp [newEntry, hk, Entry.blank, State.initialState, hu]
  · have hgood := mt (kindOperandsBad_output hk ht).mpr h
    rw [claimedEntry_output hk ht]
    obtain ⟨hm, hmode⟩ | ⟨hm, hmode⟩ | ⟨hm, hmode⟩ | ⟨hm, _⟩ := modeOperand_cases op.mode
    · simp only [hmode]
      refine ⟨_, rfl, ?_⟩
      simp [newEntry, hk, hm, claimedOutput, Entry.blank, State.initialState]
    · have hschedule : scheduleLegal op.period.toNat op.phase.toNat = true := by
        by_contra hno
        exact hgood (.inr ⟨hm, hno⟩)
      simp only [hmode, if_pos hschedule]
      refine ⟨_, rfl, ?_⟩
      simp [newEntry, hk, hm, claimedOutput, Entry.blank, State.initialState]
    · simp only [hmode]
      refine ⟨_, rfl, ?_⟩
      simp [newEntry, hk, hm, claimedOutput, Entry.blank, State.initialState]
    · exact absurd (.inl hm) hgood
  · rw [claimedEntry_bridge hk ht, if_pos (not_not.mp (mt (kindOperandsBad_bridge hk ht).mpr h))]
    refine ⟨_, rfl, ?_⟩
    cases hu : s.usable (s.home i) <;> simp [newEntry, hk, Entry.blank, State.initialState, hu]
  · exact absurd (.inl hk) h

theorem claimBad_iff (op : ClaimOperands) :
    ClaimBad op ↔ selectorOperand op.selector = none ∨ KindOperandsBad op := by
  rw [selectorOperand_none_iff, or_assoc]
  exact Iff.rfl

end

/-! ### The duplicate guard at the new entry -/

theorem clash_iff (m : BankMap) (i j : Index) (e x : Entry) :
    clash m (i, e) (j, x) = true ↔
      (e.kind ≠ .output ∧ x.kind ≠ .output ∧ m.home i = m.home j ∧ e.tag = x.tag ∧ e.mask = x.mask) ∨
      (e.kind ≠ .input ∧ publishingSide m i e = publishingSide m j x) := by
  unfold clash
  cases hk : e.kind <;> cases hx : x.kind <;> simp [receivingSide, publishingSide, hk, hx]

theorem duplicates_iff (s : State) (i : Index) (e : Entry) : s.duplicates i e = true ↔ Duplicated s i e := by
  unfold State.duplicates
  rw [List.any_eq_true]
  constructor
  · rintro ⟨⟨j, x⟩, hx, hclash⟩
    exact ⟨j, x, (s.entries.mem_occupied j x).mp hx, (clash_iff s.applied.bankMap i j e x).mp hclash⟩
  · rintro ⟨j, x, hx, hsides⟩
    exact ⟨(j, x), (s.entries.mem_occupied j x).mpr hx, (clash_iff s.applied.bankMap i j e x).mpr hsides⟩

/-! ### CLAIM -/

section
variable {op : ClaimOperands} {n : Nat} {s : State} {i : Index} {e : Entry} {x : Selector}

theorem requestClaim_bad (h : ClaimBad op) : requestClaim op s = (s, .plain .badArg) := by
  unfold requestClaim
  obtain hsel | hbad := (claimBad_iff op).mp h
  · rw [hsel]
  · rw [claimedEntry_none hbad]
    cases selectorOperand op.selector <;> rfl

theorem requestClaim_refused {status : Status} (hx : selectorOperand op.selector = some x) (hg : ¬ ClaimBad op)
    (hr : s.chooseIndex x = .error status) : requestClaim op s = (s, .plain status) := by
  have hgood : ¬ KindOperandsBad op := fun hb => hg ((claimBad_iff op).mpr (.inr hb))
  obtain ⟨e, he, _⟩ := claimedEntry_starts hgood s 0
  unfold requestClaim
  simp only [hx, he, hr]

/-- R10: the lowest EMPTY index of a bank, or none. -/
theorem chooseIndex_explicit (i : Index) :
    s.chooseIndex (.explicit i) =
      match s.entry i with
      | none => .ok i
      | some e => .error (if e.state = .retiring then .busy else .occupied) := rfl

theorem bankOf_eq_iff (i : Index) (k : Fin 4) : bankOf i = k ↔ i.val / 16 = k.val := by
  unfold bankOf
  exact Fin.ext_iff

theorem chooseIndex_noSlot {k : Fin 4} (h : ∀ i : Index, i.val / 16 = k.val → s.entry i ≠ none) :
    s.chooseIndex (.lowestFree k) = .error .noSlot := by
  have hnone : (indices.find? fun i => bankOf i == k && (s.entry i).isNone) = none := by
    rw [find_indices_none]
    intro i
    by_cases hi : i.val / 16 = k.val
    · simp [Option.isNone_eq_false_iff.mpr (Option.isSome_iff_ne_none.mpr (h i hi))]
    · have hb : ¬ bankOf i = k := fun hb => hi ((bankOf_eq_iff i k).mp hb)
      simp [hb]
  unfold State.chooseIndex
  simp only [hnone]

/-- R10: the index that the operands choose. -/
theorem chooseIndex_of_chooses (hg : ¬ ClaimBad op) (h : ClaimChooses s op i) :
    ∃ x, selectorOperand op.selector = some x ∧ s.chooseIndex x = .ok i := by
  obtain ⟨hempty, hexplicit, hlowest⟩ := h
  by_cases hlow : op.selector.toNat < 128
  · refine ⟨_, selectorOperand_explicit (hexplicit hlow), ?_⟩
    rw [chooseIndex_explicit, hempty]
  · obtain ⟨hbank, hmin⟩ := hlowest (by omega)
    have hsel : op.selector.toNat - 128 < 4 := by
      rw [← hbank]
      have := i.isLt
      omega
    have hk : op.selector.toNat = 128 + (⟨op.selector.toNat - 128, hsel⟩ : Fin 4).val := by
      dsimp only
      omega
    refine ⟨_, selectorOperand_bank hk, ?_⟩
    have hfind : (indices.find? fun j => bankOf j == ⟨op.selector.toNat - 128, hsel⟩ && (s.entry j).isNone) = some i := by
      rw [find_indices_some]
      simp only [Bool.and_eq_true, beq_iff_eq, bankOf_eq_iff, Option.isNone_iff_eq_none]
      exact ⟨⟨hbank, hempty⟩, fun j hj => hmin j hj.1 hj.2⟩
    unfold State.chooseIndex
    simp only [hfind]

/-- R11, R12: what CLAIM makes of the index it has chosen. -/
theorem requestClaim_chosen (hg : ¬ ClaimBad op) (h : ClaimChooses s op i) :
    requestClaim op s =
      if s.duplicates i (newEntry s i op) then (s, .plain .duplicate)
      else (s.setEntry i (newEntry s i op), { status := .ok, result := [indexByte i] }) := by
  have hgood : ¬ KindOperandsBad op := fun hb => hg ((claimBad_iff op).mpr (.inr hb))
  obtain ⟨x, hx, hi⟩ := chooseIndex_of_chooses hg h
  obtain ⟨e, he, hnew⟩ := claimedEntry_starts hgood s i
  have hsides : s.duplicates i (newEntry s i op) = s.duplicates i e := by
    rw [← hnew]
    exact Bool.eq_iff_iff.mpr ((duplicates_iff s i _).trans (duplicates_iff s i e).symm)
  rw [hsides, ← hnew]
  unfold requestClaim
  simp only [hx, he, hi]

theorem requestClaim_duplicate (hg : ¬ ClaimBad op) (h : ClaimChooses s op i) (hd : Duplicated s i (newEntry s i op)) :
    requestClaim op s = (s, .plain .duplicate) := by
  rw [requestClaim_chosen hg h, if_pos ((duplicates_iff s i _).mpr hd)]

theorem requestClaim_creates (hg : ¬ ClaimBad op) (h : ClaimChooses s op i)
    (hd : ¬ Duplicated s i (newEntry s i op)) :
    requestClaim op s = (s.setEntry i (newEntry s i op), { status := .ok, result := [indexByte i] }) := by
  rw [requestClaim_chosen hg h, if_neg (mt (duplicates_iff s i _).mp hd)]

end

/-- Settles O9, by the operands, then the index, then the duplicate guard. -/
theorem claimRefusals : Obligations.ClaimRefusals := by
  intro op n s hT
  refine ⟨fun hbad => ?bad, fun hg => ⟨fun i e hi he => ?occupied, fun hlarge hfull => ?noSlot,
    fun i hi hd => ?duplicate⟩⟩
  case bad => exact exec_unchanged _ _ n s .badArg rfl hT (requestClaim_bad hbad)
  case occupied =>
    refine exec_unchanged _ _ n s _ rfl hT (requestClaim_refused (selectorOperand_explicit hi) hg ?_)
    rw [chooseIndex_explicit, show (s.shift _).entry i = some e from he]
  case noSlot =>
    have hsel : ¬ 131 < op.selector.toNat := fun hsel => hg (.inr (.inl hsel))
    have hk : op.selector.toNat = 128 + (⟨op.selector.toNat - 128, by omega⟩ : Fin 4).val := by
      dsimp only
      omega
    exact exec_unchanged _ _ n s .noSlot rfl hT
      (requestClaim_refused (selectorOperand_bank hk) hg (chooseIndex_noSlot hfull))
  case duplicate =>
    exact exec_unchanged _ _ n s .duplicate rfl hT
      (requestClaim_duplicate (s := s.shift (8 * ((Request.claim op).length + n))) hg hi hd)

/-- Settles O10, by the entry that the operands describe. -/
theorem claimCreates : Obligations.ClaimCreates := fun op n s _ hT hg hi hd =>
  exec_answered _ _ n s _ .ok _ _ rfl hT
    (requestClaim_creates (s := s.shift (8 * ((Request.claim op).length + n))) hg hi hd) rfl

end Sys2Proof.Machine

/-! PROOFS. READ, SET, HOLD, RELEASE, TAKE and LINE, and the pins that TAKE and ACK_EVENTS service (R28, R56 to R60, R62,
R71, R72, R159, R166, R167, R176). -/

namespace Sys2Proof.Machine

open Sys2Proof.Safety

section
variable {b k : Byte} {v : Vector Byte 8} {n : Nat} {s : State} {i : Index} {e : Entry} {l : LineId} {status : Status}

/-! ### READ -/

theorem requestRead_noIndex (hb : 64 ≤ b.toNat) : requestRead b s = (s, .plain .badArg) := by
  simp only [requestRead, indexOperand_none hb]

theorem requestRead_shows (hb : Names b i) : requestRead b s = (s, { status := .ok, result := s.entryView i }) := by
  simp only [requestRead, indexOperand_names hb]

/-! ### SET -/

theorem valueOperand_some (hk : k.toNat ≤ 8) : valueOperand k v = some (v.toList.take k.toNat) := if_pos hk

theorem valueOperand_none (hk : 8 < k.toNat) : valueOperand k v = none := if_neg (Nat.not_le.mpr hk)

theorem requestSet_badArg (h : 64 ≤ b.toNat ∨ 8 < k.toNat) : requestSet b k v s = (s, .plain .badArg) := by
  unfold requestSet
  obtain hb | hk := h
  · rw [indexOperand_none hb]
  · rw [valueOperand_none hk]
    cases indexOperand b <;> rfl

section
variable (hb : Names b i) (hk : k.toNat ≤ 8)
include hb hk

theorem requestSet_empty (he : s.entry i = none) : requestSet b k v s = (s, .plain .badState) := by
  simp only [requestSet, indexOperand_names hb, valueOperand_some hk, he]

theorem requestSet_badKind (he : s.entry i = some e) (hkind : e.kind ≠ .output) :
    requestSet b k v s = (s, .plain .badKind) := by
  simp only [requestSet, indexOperand_names hb, valueOperand_some hk, he, if_pos hkind]

theorem requestSet_retiring (he : s.entry i = some e) (hkind : e.kind = .output) (hs : e.state = .retiring) :
    requestSet b k v s = (s, .plain .badState) := by
  have hno : ¬ (e.state = .live ∨ e.state = .spent) := by simp [hs]
  simp only [requestSet, indexOperand_names hb, valueOperand_some hk, he, if_neg (not_not.mpr hkind), if_neg hno]

theorem requestSet_stages (he : s.entry i = some e) (hkind : e.kind = .output) (hs : e.state = .live ∨ e.state = .spent) :
    requestSet b k v s = (s.setEntry i (e.stage (v.toList.take k.toNat) (s.mode (s.home i))), .plain .ok) := by
  simp only [requestSet, indexOperand_names hb, valueOperand_some hk, he, if_neg (not_not.mpr hkind), if_pos hs]

end

/-- R60: on a FREE line every schedule but ON_QUERY publishes a change. -/
theorem publishesOnChange_free (e : Entry) : e.publishesOnChange .free = decide (e.mode ≠ .onQuery) := by
  unfold Entry.publishesOnChange
  cases e.mode <;> rfl

theorem bne_value (a c : Option Value) : (a != c) = decide (a ≠ c) := by
  rw [bne, beq_value, decide_not]

/-- R60, R62: a sampling on a FREE line. -/
theorem sample_free {x : Value} (h : e.staged = some x) : e.sample .free = sampledOnFree e x := by
  unfold Entry.sample sampledOnFree
  rw [h]
  dsimp only
  rw [publishesOnChange_free, bne_value]

/-- R57, R58: a value only staged. -/
theorem stage_waits {m : CycleMode} (h : e.held = true ∨ m = .beaconed) (x : Value) :
    e.stage x m = { e with state := .live, staged := some x } := by
  unfold Entry.stage
  dsimp only
  refine if_neg ?_
  obtain h | h := h <;> simp [h]

/-- R60: a value staged on a FREE line is sampled at once. -/
theorem stage_samples (h : e.held = false) (x : Value) :
    e.stage x .free =
      { e with state := .live, staged := none, value := some x
               publishPending := e.publishPending || (decide (e.mode ≠ .onQuery) && decide (e.value ≠ some x)) } := by
  unfold Entry.stage
  dsimp only
  rw [if_pos (by simp [h])]
  exact sample_free rfl

/-! ### HOLD and RELEASE -/

theorem requestHold_refused (h : s.publishingOperand b = .error status) : requestHold b s = (s, .plain status) := by
  simp only [requestHold, h]

theorem requestHold_sets (h : s.publishingOperand b = .ok (i, e)) :
    requestHold b s = (s.setEntry i { e with held := true }, .plain .ok) := by
  simp only [requestHold, h]

theorem requestRelease_refused (h : s.publishingOperand b = .error status) :
    requestRelease b s = (s, .plain status) := by
  simp only [requestRelease, h]

theorem requestRelease_sets (h : s.publishingOperand b = .ok (i, e)) :
    requestRelease b s = (s.setEntry i (e.unhold (s.mode (s.home i))), .plain .ok) := by
  simp only [requestRelease, h]

/-- R72: a release without a sampling. -/
theorem unhold_bare {m : CycleMode}
    (h : e.held = false ∨ e.kind = .bridge ∨ e.state ≠ .live ∨ m = .beaconed ∨ e.staged = none) :
    e.unhold m = { e with held := false } := by
  unfold Entry.unhold
  dsimp only
  split
  next hc =>
    simp only [Entry.samples, Bool.and_eq_true, beq_iff_eq] at hc
    obtain ⟨⟨hheld, ⟨hout, hlive⟩, _⟩, hfree⟩ := hc
    obtain h | h | h | h | h := h
    · rw [h] at hheld
      cases hheld
    · rw [h] at hout
      cases hout
    · exact absurd hlive h
    · rw [h] at hfree
      cases hfree
    · unfold Entry.sample
      simp only [h]
  next => rfl

/-- R62, R72: a release that samples. -/
theorem unhold_samples {x : Value} (hheld : e.held = true) (hk : e.kind = .output) (hs : e.state = .live)
    (hx : e.staged = some x) :
    e.unhold .free =
      { e with held := false, staged := none, value := some x
               publishPending := e.publishPending || (decide (e.mode ≠ .onQuery) && decide (e.value ≠ some x)) } := by
  unfold Entry.unhold
  dsimp only
  rw [if_pos (by simp [hheld, Entry.samples, hk, hs])]
  exact sample_free (e := { e with held := false }) hx

/-! ### TAKE -/

theorem requestTake_empty (hq : s.queue = []) : requestTake s = (s.servicePins s, .plain .queueEmpty) := by
  simp only [requestTake, hq]

theorem requestTake_head {rest : List Index} (hq : s.queue = i :: rest) (he : s.entry i = some e) :
    requestTake s =
      (((s.setEntry i { e with causes := .nothing }).withQueue rest).servicePins s,
        { status := .ok, result := indexByte i :: causeBytes e.causes }) := by
  simp only [requestTake, hq, State.takeHead, State.causesAt, he]

/-! ### LINE -/

theorem requestLine_noLine (hb : 1 < b.toNat) : requestLine b s = (s, .plain .badArg) := by
  simp only [requestLine, lineOperand_none hb]

theorem requestLine_shows (hb : NamesLine b l) : requestLine b s = (s, { status := .ok, result := s.lineView l }) := by
  simp only [requestLine, lineOperand_names hb]

end

/-- R173: an answer of its request's own length is held as it is. -/
theorem response_full {result : List Byte} {length : Nat} (h : result.length + 1 = length) :
    result = (Answer.response ⟨.ok, result⟩ length).result := by
  have hnone : length - 1 - result.length = 0 := by omega
  unfold Answer.response
  simp [hnone]

/-- Settles O12: READ answers the view whatever the entry. -/
theorem readShowsEntry : Obligations.ReadShowsEntry := by
  intro b n s hT
  refine ⟨fun hb => exec_unchanged _ _ n s .badArg rfl hT (requestRead_noIndex hb), fun i hb => ?_⟩
  exact exec_answered _ _ n s s .ok _ _ rfl hT (requestRead_shows hb)
    (response_full (by rw [s.entryView_length i]; rfl))

/-- Settles O15, by SET's checks and the two ways of staging. -/
theorem setStagesValue : Obligations.SetStagesValue := by
  intro b k v n s hT
  refine ⟨fun hbad => ?badArg, fun i hb hk => ⟨fun he => ?empty, fun e he => ⟨fun hkind => ?badKind,
    fun hkind hs => ?retiring, fun hkind hs => ⟨fun hw => ?waits, fun hheld hfree => ?samples⟩⟩⟩⟩
  case badArg => exact exec_unchanged _ _ n s .badArg rfl hT (requestSet_badArg hbad)
  case empty => exact exec_unchanged _ _ n s .badState rfl hT (requestSet_empty hb hk he)
  case badKind => exact exec_unchanged _ _ n s .badKind rfl hT (requestSet_badKind hb hk he hkind)
  case retiring => exact exec_unchanged _ _ n s .badState rfl hT (requestSet_retiring hb hk he hkind hs)
  case waits =>
    rw [← stage_waits hw]
    exact exec_answered _ _ n s _ .ok [] [] rfl hT (requestSet_stages hb hk he hkind hs) rfl
  case samples =>
    rw [← stage_samples hheld, ← hfree]
    exact exec_answered _ _ n s _ .ok [] [] rfl hT (requestSet_stages hb hk he hkind hs) rfl

/-- Settles O17, by the checks of R71 and R72 in their order. -/
theorem holdAndRelease : Obligations.HoldAndRelease := by
  refine ⟨fun b n s hT => ?hold, fun b n s hT => ?release⟩
  case hold =>
    have hrefused : ∀ status, s.publishingOperand b = .error status →
        exec (.hold b n) s = .next (unchanged s (.hold b) n status) := fun status h =>
      exec_unchanged _ _ n s status rfl hT (requestHold_refused h)
    refine ⟨fun hb => hrefused _ (publishingOperand_noIndex hb), fun i hb =>
      ⟨fun he => hrefused _ (publishingOperand_empty hb he), fun e he =>
        ⟨fun hk => hrefused _ (publishingOperand_input hb he hk),
          fun hk hs => hrefused _ (publishingOperand_retiring hb he hk hs), fun hk hs => ?_⟩⟩⟩
    exact exec_answered _ _ n s _ .ok [] [] rfl hT (requestHold_sets (publishingOperand_names hb he hk hs)) rfl
  case release =>
    have hrefused : ∀ status, s.publishingOperand b = .error status →
        exec (.release b n) s = .next (unchanged s (.release b) n status) := fun status h =>
      exec_unchanged _ _ n s status rfl hT (requestRelease_refused h)
    refine ⟨fun hb => hrefused _ (publishingOperand_noIndex hb), fun i hb =>
      ⟨fun he => hrefused _ (publishingOperand_empty hb he), fun e he =>
        ⟨fun hk => hrefused _ (publishingOperand_input hb he hk),
          fun hk hs => hrefused _ (publishingOperand_retiring hb he hk hs), fun hk hs =>
            ⟨fun hbare => ?bare, fun v hheld hout hlive hfree hv => ?samples⟩⟩⟩⟩
    case bare =>
      rw [← unhold_bare hbare]
      exact exec_answered _ _ n s _ .ok [] [] rfl hT (requestRelease_sets (publishingOperand_names hb he hk hs)) rfl
    case samples =>
      rw [← unhold_samples hheld hout hlive hv, ← hfree]
      exact exec_answered _ _ n s _ .ok [] [] rfl hT (requestRelease_sets (publishingOperand_names hb he hk hs)) rfl

/-- Settles O18: the head of the queue with its causes, or the bare status. -/
theorem takeReturnsHead : Obligations.TakeReturnsHead := fun n s hT =>
  ⟨fun hq => exec_answered _ _ n s _ .queueEmpty [] _ rfl hT (requestTake_empty hq) rfl,
    fun _ _ _ hq he => exec_answered _ _ n s _ .ok _ _ rfl hT (requestTake_head hq he) rfl⟩

theorem lineByte_eq (l : LineId) : lineByte l = BitVec.ofNat 8 (lineNumber l) := by
  cases l <;> rfl

theorem lineHead_eq (r k m : Nat) (x : Role) :
    byteOfNat (r * 128 + (if x = .source then 64 else 0) + k * 16 + m) =
      BitVec.ofNat 8 (128 * r + 64 * x.number + 16 * k + m) := by
  unfold byteOfNat
  congr 1
  cases x
  · show r * 128 + 0 + k * 16 + m = 128 * r + 0 + 16 * k + m
    omega
  · show r * 128 + 64 + k * 16 + m = 128 * r + 64 + 16 * k + m
    omega

theorem inFlightByte_eq (a : Option Attempt) :
    inFlightByte a =
      match a.map Attempt.owner with
      | none => 0
      | some .beacon => 64
      | some (.publish i) => BitVec.ofNat 8 (128 + i.val)
      | some (.ask i) => BitVec.ofNat 8 (192 + i.val) := by
  cases a with
  | none => rfl
  | some a =>
    obtain ⟨owner, frame⟩ := a
    cases owner <;> rfl

theorem waitsByte_eq (s : State) (l : LineId) :
    byteOfNat (s.bankWaits.toNat * 2 + (s.lineWaits l).toNat) =
      match s.applySet with
      | none => 0
      | some p => BitVec.ofNat 8 ((p.lineWaiting.get l).toNat + 2 * p.bankWaiting.toNat) := by
  unfold State.bankWaits State.lineWaits
  cases s.applySet with
  | none => rfl
  | some p =>
    show BitVec.ofNat 8 (p.bankWaiting.toNat * 2 + (p.lineWaiting.get l).toNat) = _
    congr 1
    omega

/-- Settles O21: the line view, byte by byte. -/
theorem lineShowsView : Obligations.LineShowsView := by
  intro b n s hT
  refine ⟨fun hb => exec_unchanged _ _ n s .badArg rfl hT (requestLine_noLine hb), fun l hb => ?_⟩
  have hexec := exec_answered (.line b n) _ n s s .ok (s.lineView l) _ rfl hT (requestLine_shows hb) (response_full rfl)
  refine hexec.trans (congrArg (fun view => Host.Outcome.next (answered s s (.line b) n .ok view)) ?_)
  unfold State.lineView
  dsimp only
  rw [lineByte_eq, lineHead_eq, inFlightByte_eq, waitsByte_eq, Nat.mul_comm (s.cycle.get l).holdOff 16]
  rfl

/-! ### The pins -/

/-- R164: an acknowledgement sets no flag. -/
theorem Seven.get_ack_le (x : Seven Bool) (m : Byte) (f : LineFlag) (h : (x.ack m).get f = true) : x.get f = true := by
  obtain ⟨k, hk⟩ : ∃ k, lineFlags[k]? = some f := ⟨lineFlags.idxOf f, by cases f <;> rfl⟩
  rw [Seven.get_ack x m hk] at h
  exact (Bool.and_eq_true_iff.mp h).1

theorem flag_ack_le (s : State) (m0 m1 m2 : Byte) (f : EventFlag)
    (h : (s.withFlags (s.flags.ack m0 m1 m2)).flag f = true) : s.flag f = true := by
  cases f with
  | ofLine l f =>
    cases l
    · exact Seven.get_ack_le _ m0 f h
    · exact Seven.get_ack_le _ m1 f h
  | queueReady => exact h
  | applyDone => exact (Bool.and_eq_true_iff.mp h).1
  | applyFault => exact (Bool.and_eq_true_iff.mp h).1

/-- R165: fewer flags, routed alike, demand less. -/
theorem demand_le {s t : State} (hr : t.applied.routes = s.applied.routes) (hf : ∀ f, t.flag f = true → s.flag f = true)
    {p : PinId} (h : t.demand p = true) : s.demand p = true := by
  unfold State.demand at h ⊢
  rw [List.any_eq_true] at h ⊢
  obtain ⟨f, hmem, hx⟩ := h
  rw [hr] at hx
  obtain ⟨hflag, hroute⟩ := Bool.and_eq_true_iff.mp hx
  exact ⟨f, hmem, Bool.and_eq_true_iff.mpr ⟨hf f hflag, hroute⟩⟩

/-- R166: what a service request makes of a pin. -/
theorem service_pin {s y : State} {p : PinId} (hpins : y.pins = s.pins) :
    (s.demand p = true → y.demand p = true → (y.servicePins s).pins.get p = .repulse) ∧
      (y.demand p = false → (y.servicePins s).pins.get p = .released) := by
  rw [State.pins_servicePins, hpins]
  refine ⟨fun hb ha => ?_, fun ha => ?_⟩
  · rw [hb, ha]
    cases s.pins.get p <;> rfl
  · rw [ha]
    cases s.pins.get p <;> cases s.demand p <;> rfl

/-- A request that leaves `y` and services the pins. -/
theorem exec_services {c : Instr} {r : Request} {n : Nat} {s y : State} {a : Answer} (p : PinId)
    (hc : requestOf c = some (r, n)) (hT : Taken s r n)
    (hr : runRequest r (s.shift (8 * (r.length + n))) =
      ((y.servicePins s).withPort (s.shift (8 * (r.length + n))).port, a))
    (hpins : y.pins = s.pins) (hroutes : y.applied.routes = s.applied.routes)
    (hflags : ∀ f, y.flag f = true → s.flag f = true) :
    ∃ t, exec c s = .next t ∧ (s.demand p = true → t.demand p = true → t.pins.get p = .repulse) ∧
      (t.demand p = false → t.pins.get p = .released) ∧ (t.demand p = true → s.demand p = true) := by
  obtain ⟨hkeeps, hends⟩ := service_pin (p := p) hpins
  exact ⟨_, exec_answered c r n s (y.servicePins s) a.status a.result _ hc hT hr rfl, hkeeps, hends,
    demand_le hroutes hflags⟩

theorem flag_withQueue_le (s : State) (x : List Index) (hx : x ≠ [] → s.queue ≠ []) (f : EventFlag)
    (h : (s.withQueue x).flag f = true) : s.flag f = true := by
  cases f with
  | queueReady =>
    rw [State.flag_queueReady] at h ⊢
    exact decide_eq_true (hx (of_decide_eq_true h))
  | _ => exact h

theorem takeHead_shift (s : State) (edges : Nat) (i : Index) (rest : List Index) :
    (s.shift edges).takeHead i rest = (s.takeHead i rest).withPort (s.shift edges).port := by
  unfold State.takeHead
  cases he : s.entry i with
  | none => rw [show (s.shift edges).entry i = none from he]; rfl
  | some e => rw [show (s.shift edges).entry i = some e from he]; rfl

/-- Neither queue nor directory lives in the host port. -/
theorem requestTake_shift {s : State} {i : Index} {rest : List Index} (hq : s.queue = i :: rest) (edges : Nat) :
    requestTake (s.shift edges) =
      (((s.takeHead i rest).servicePins s).withPort (s.shift edges).port,
        { status := .ok, result := indexByte i :: causeBytes (s.causesAt i) }) := by
  unfold requestTake
  rw [show (s.shift edges).queue = i :: rest from hq]
  dsimp only
  rw [takeHead_shift]
  rfl

theorem pinFor_eq (b : Bool) : pinFor b = if b = true then .asserted else .released := by
  cases b <;> rfl

/-- Settles O20: TAKE and ACK_EVENTS only take flags away and service the pins; a window ends by the demand. -/
theorem serviceRepulsesPins : Obligations.ServiceRepulsesPins := by
  refine ⟨fun c r n s p hc hT hkind => ?service, fun p s => ⟨fun hp => ?ends, fun hp => ?none⟩⟩
  case service =>
    obtain rfl | ⟨m0, m1, m2, rfl⟩ := hkind
    · obtain rfl : Request.take = r := (Prod.mk.inj (Option.some.inj hc)).1
      cases hq : s.queue with
      | nil =>
        exact exec_services (y := s) p rfl hT (requestTake_empty hq) rfl rfl fun _ => id
      | cons i rest =>
        have hqueue : rest ≠ [] → s.queue ≠ [] := fun _ => by simp [hq]
        have hflags : ∀ f, (s.takeHead i rest).flag f = true → s.flag f = true := by
          intro f hf
          refine flag_withQueue_le s rest hqueue f ?_
          unfold State.takeHead at hf
          split at hf <;> exact hf
        exact exec_services p rfl hT (requestTake_shift hq _) (by unfold State.takeHead; split <;> rfl)
          (by unfold State.takeHead; split <;> rfl) hflags
    · obtain rfl : Request.ackEvents m0 m1 m2 = r := (Prod.mk.inj (Option.some.inj hc)).1
      exact exec_services p rfl hT (runRequest_ackEvents_shift m0 m1 m2 s _) rfl rfl (flag_ack_le s m0 m1 m2)
  case ends =>
    show Host.Outcome.next (match s.pins.get p with
      | .repulse => _
      | _ => _) = _
    simp only [hp, pinFor_eq]
    rfl
  case none =>
    show Host.Outcome.next (match s.pins.get p with
      | .repulse => _
      | _ => s) = _
    cases hs : s.pins.get p with
    | repulse => exact absurd hs hp
    | _ => rfl

end Sys2Proof.Machine

/-! PROOFS. The bytes of the entry view ("Entry view", "Causes", R28, R180). -/

namespace Sys2Proof.Machine

open Sys2Proof.Safety

/-! ### Fields of the view -/

/-- A value field of the view: presence, `extra`, length, and eight bytes. -/
def valueField (v : Option Value) (extra : Nat) : List Byte := lengthByte v extra :: valueBytes v

/-- The receiving numbers of the view. -/
def Entry.receivingBytes (e : Entry) : List Byte :=
  if e.kind = .output then [0, 0, 0] else [BitVec.ofNat 8 e.confirm, BitVec.ofNat 8 e.refresh, BitVec.ofNat 8 e.age]

/-- The publishing schedule of the view. -/
def Entry.scheduleBytes (e : Entry) : List Byte :=
  if e.kind = .output then
    if e.mode = .periodic then [1, BitVec.ofNat 8 e.period, BitVec.ofNat 8 e.phase]
    else [BitVec.ofNat 8 (modeNumber e.mode), 0, 0]
  else [0, 0, 0]

def Entry.stampByte (e : Entry) : Byte :=
  match e.stamp with
  | none => 0
  | some k => BitVec.ofNat 8 (128 + k.toNat)

/-- The flags of the view, from bit 7 down. -/
def Entry.flagBits (e : Entry) : List Bool :=
  [e.notify, decide (e.kind = .output) && e.oneShot, decide (e.kind ≠ .input) && e.answersRecall,
    decide (e.kind ≠ .input) && e.held, decide (e.kind ≠ .input) && e.publishPending,
    decide (e.kind ≠ .output) && e.askPending, e.inFlight.b, e.inFlight.a]

/-- The staged value the view shows (R180). -/
def Entry.shownStaged (e : Entry) : Option Value := if e.kind = .output then e.staged else none

/-- The candidate the view shows (R180). -/
def Entry.shownCandidate (e : Entry) : Option Candidate := if e.kind = .output then none else e.candidate

def candidateField (c : Option Candidate) : List Byte :=
  valueField (c.map Candidate.value) ((c.map Candidate.run).getD 0 * 16)

/-- The entry view of an occupied position, field by field. -/
theorem entryView_some {s : State} {i : Index} {e : Entry} (he : s.entry i = some e) :
    s.entryView i =
      [indexByte i, entryHead (kindNumber e.kind) (s.home i) (s.queue.contains i) (entryStateNumber e.state)] ++
      tagBytes e.tag ++ tagBytes (if e.kind = .output then 0 else e.mask) ++
      tagBytes (if e.kind = .bridge then e.outTag else 0) ++ e.receivingBytes ++ e.scheduleBytes ++ [e.stampByte] ++
      [byteOfBits e.flagBits] ++ causeBytes e.causes ++ valueField e.value 0 ++ valueField e.shownStaged 0 ++
      candidateField e.shownCandidate := by
  unfold State.entryView
  rw [he]
  -- kind, mode and stamp decide which fields the view carries
  obtain ⟨_, kind, _, _, _, _, _, _, _, _, _, mode, _, _, stamp, _, _, _, _, _, _, _, _⟩ := e
  cases kind <;> cases mode <;> cases stamp <;> rfl

theorem list_eight {xs : List Byte} (h : xs.length = 8) :
    ∃ b0 b1 b2 b3 b4 b5 b6 b7, xs = [b0, b1, b2, b3, b4, b5, b6, b7] := by
  match xs, h with
  | [b0, b1, b2, b3, b4, b5, b6, b7], _ => exact ⟨b0, b1, b2, b3, b4, b5, b6, b7, rfl⟩

theorem tagBytes_eq (t : Tag) : tagBytes t = twoBytes t.toNat := by
  have ht := t.isLt
  have hhigh : (t.setWidth 16).extractLsb' 8 8 = BitVec.ofNat 8 (t.toNat / 256) := by
    apply BitVec.eq_of_toNat_eq
    simp only [BitVec.extractLsb'_toNat, BitVec.toNat_setWidth, BitVec.toNat_ofNat, Nat.shiftRight_eq_div_pow]
    omega
  have hlow : (t.setWidth 16).extractLsb' 0 8 = BitVec.ofNat 8 t.toNat := by
    apply BitVec.eq_of_toNat_eq
    simp only [BitVec.extractLsb'_toNat, BitVec.toNat_setWidth, BitVec.toNat_ofNat, Nat.shiftRight_eq_div_pow]
    omega
  unfold tagBytes bytes16 twoBytes
  rw [hhigh, hlow]

theorem entryHead_eq (kind state : Nat) (l : LineId) (queued : Bool) :
    entryHead kind l queued state = BitVec.ofNat 8 (64 * kind + 32 * lineNumber l + 16 * queued.toNat + state) := by
  have hl : (lineByte l).toNat = lineNumber l := by cases l <;> rfl
  unfold entryHead byteOfNat
  rw [hl]
  congr 1
  omega

/-! ### Value fields -/

theorem lengthByte_some {v : Value} (h : v.length ≤ 8) (extra : Nat) :
    lengthByte (some v) extra = BitVec.ofNat 8 (128 + extra + v.length) := by
  have hmod : v.length % 16 = v.length := Nat.mod_eq_of_lt (by omega)
  unfold lengthByte byteOfNat
  simp [hmod]

theorem valueBytes_some {v : Value} (h : v.length ≤ 8) :
    valueBytes (some v) = v ++ List.replicate (8 - v.length) 0 := by
  unfold valueBytes
  simp [List.take_of_length_le h]

theorem valueField_none : valueField none 0 = List.replicate 9 0 := rfl

/-- The three value fields as nine bytes each. -/
theorem valueField_nine (v : Option Value) (extra : Nat) :
    ∃ b0 b1 b2 b3 b4 b5 b6 b7, valueField v extra = [lengthByte v extra, b0, b1, b2, b3, b4, b5, b6, b7] ∧
      valueBytes v = [b0, b1, b2, b3, b4, b5, b6, b7] := by
  obtain ⟨b0, b1, b2, b3, b4, b5, b6, b7, h⟩ := list_eight (valueBytes_length v)
  exact ⟨b0, b1, b2, b3, b4, b5, b6, b7, by unfold valueField; rw [h], h⟩

/-- The triples of the view have three bytes. -/
theorem receivingBytes_three (e : Entry) : ∃ x y z, e.receivingBytes = [x, y, z] := by
  unfold Entry.receivingBytes
  split <;> exact ⟨_, _, _, rfl⟩

theorem scheduleBytes_three (e : Entry) : ∃ x y z, e.scheduleBytes = [x, y, z] := by
  unfold Entry.scheduleBytes
  split
  · split <;> exact ⟨_, _, _, rfl⟩
  · exact ⟨_, _, _, rfl⟩

/-- The fields of the view at their positions. -/
structure ViewShows (s : State) (i : Index) (e : Entry) : Prop where
  head : (s.entryView i)[1]? =
    some (entryHead (kindNumber e.kind) (s.home i) (s.queue.contains i) (entryStateNumber e.state))
  tag : ((s.entryView i).drop 2).take 2 = tagBytes e.tag
  mask : ((s.entryView i).drop 4).take 2 = tagBytes (if e.kind = .output then 0 else e.mask)
  outTag : ((s.entryView i).drop 6).take 2 = tagBytes (if e.kind = .bridge then e.outTag else 0)
  receiving : ((s.entryView i).drop 8).take 3 = e.receivingBytes
  schedule : ((s.entryView i).drop 11).take 3 = e.scheduleBytes
  stamp : (s.entryView i)[14]? = some e.stampByte
  flags : (s.entryView i)[15]? = some (byteOfBits e.flagBits)
  causes : ((s.entryView i).drop 16).take 2 = causeBytes e.causes
  valueHead : (s.entryView i)[18]? = some (lengthByte e.value 0)
  value : ((s.entryView i).drop 19).take 8 = valueBytes e.value
  valueWhole : ((s.entryView i).drop 18).take 9 = valueField e.value 0
  stagedHead : (s.entryView i)[27]? = some (lengthByte e.shownStaged 0)
  staged : ((s.entryView i).drop 28).take 8 = valueBytes e.shownStaged
  stagedWhole : ((s.entryView i).drop 27).take 9 = valueField e.shownStaged 0
  candidateHead : (s.entryView i)[36]? =
    some (lengthByte (e.shownCandidate.map Candidate.value) ((e.shownCandidate.map Candidate.run).getD 0 * 16))
  candidate : (s.entryView i).drop 37 = valueBytes (e.shownCandidate.map Candidate.value)
  candidateWhole : (s.entryView i).drop 36 = candidateField e.shownCandidate

theorem viewShows {s : State} {i : Index} {e : Entry} (he : s.entry i = some e) : ViewShows s i e := by
  obtain ⟨r0, r1, r2, hr⟩ := receivingBytes_three e
  obtain ⟨p0, p1, p2, hp⟩ := scheduleBytes_three e
  obtain ⟨u0, u1, u2, u3, u4, u5, u6, u7, hu, hub⟩ := valueField_nine e.value 0
  obtain ⟨v0, v1, v2, v3, v4, v5, v6, v7, hv, hvb⟩ := valueField_nine e.shownStaged 0
  obtain ⟨w0, w1, w2, w3, w4, w5, w6, w7, hw, hwb⟩ :=
    valueField_nine (e.shownCandidate.map Candidate.value) ((e.shownCandidate.map Candidate.run).getD 0 * 16)
  have hcandidate : candidateField e.shownCandidate = _ := hw
  have hview := entryView_some he
  rw [hr, hp, hu, hv, hcandidate] at hview
  constructor <;> rw [hview]
  case receiving => rw [hr]; rfl
  case schedule => rw [hp]; rfl
  case value => rw [hub]; rfl
  case valueWhole => rw [hu]; rfl
  case staged => rw [hvb]; rfl
  case stagedWhole => rw [hv]; rfl
  case candidate => rw [hwb]; rfl
  case candidateWhole => rw [hcandidate]; rfl
  all_goals rfl

theorem entryView_none {s : State} {i : Index} (he : s.entry i = none) :
    s.entryView i =
      [indexByte i, entryHead 0 (s.home i) (s.queue.contains i) 0] ++ List.replicate 43 0 := by
  unfold State.entryView
  rw [he]

theorem entryView_index (s : State) (i : Index) : (s.entryView i)[0]? = some (BitVec.ofNat 8 i.val) := by
  cases he : s.entry i with
  | none => rw [entryView_none he]; rfl
  | some e => rw [entryView_some he]; rfl

/-- R180: a value shown. -/
theorem shown_value {xs : List Byte} {v : Option Value} {x : Value} {k : Nat} (h : xs[k]? = some (lengthByte v 0))
    {ys : List Byte} (hy : ys = valueBytes v) (hv : v = some x) (hx : x.length ≤ 8) :
    xs[k]? = some (BitVec.ofNat 8 (128 + x.length)) ∧ ys = x ++ List.replicate (8 - x.length) 0 := by
  subst hv
  exact ⟨h.trans (congrArg some (lengthByte_some hx 0)), hy.trans (valueBytes_some hx)⟩

theorem causeBytes_bits (c : CauseSet) : ∃ high low : Byte, causeBytes c = [high, low] ∧
    low.getLsbD 0 = c.committed ∧ low.getLsbD 1 = c.superseded ∧ low.getLsbD 2 = c.stale ∧
    low.getLsbD 3 = c.freshened ∧ low.getLsbD 4 = c.froze ∧ low.getLsbD 5 = c.thawed ∧
    low.getLsbD 6 = c.conflict ∧ low.getLsbD 7 = c.queried ∧ high = (if c.published then 1 else 0) := by
  refine ⟨_, _, rfl, ?_, ?_, ?_, ?_, ?_, ?_, ?_, ?_, ?published⟩
  case published => cases c.published <;> rfl
  all_goals exact getLsbD_byteOfBits _ (by decide)

/-- Settles O13, field by field. -/
theorem entryViewBytes : Obligations.EntryViewBytes := by
  refine ⟨fun s i => ⟨s.entryView_length i, entryView_index s i⟩, fun s i he => ?empty, fun s i e he => ?fields,
    fun s i e he => ?flags, causeBytes_bits⟩
  case empty =>
    rw [entryView_none he, entryHead_eq]
    exact ⟨by simp, rfl⟩
  case fields =>
    have hview := viewShows he
    refine ⟨?_, ?_, ?_, ?_, hview.receiving, hview.schedule, hview.stamp, hview.causes, fun v hv hl =>
      shown_value hview.valueHead hview.value hv hl, fun hv => ?_, fun v hv hl hk => ?_, fun hv => ?_,
      fun c hc hl hrun hk => ?_, fun hc => ?_⟩
    · rw [hview.head, entryHead_eq]
    · rw [hview.tag, tagBytes_eq]
    · rw [hview.mask, tagBytes_eq]
      split <;> rfl
    · rw [hview.outTag, tagBytes_eq]
      split <;> rfl
    · rw [hview.valueWhole, hv]
      rfl
    · have hshown : e.shownStaged = some v := by rw [Entry.shownStaged, if_pos hk, hv]
      exact shown_value hview.stagedHead hview.staged hshown hl
    · have hshown : e.shownStaged = none := by
        unfold Entry.shownStaged
        split
        next hk => exact hv.resolve_right (not_not.mpr hk)
        next => rfl
      rw [hview.stagedWhole, hshown]
      rfl
    · have hshown : e.shownCandidate = some c := by rw [Entry.shownCandidate, if_neg hk, hc]
      rw [hview.candidateHead, hview.candidate, hshown]
      refine ⟨congrArg some ((lengthByte_some hl _).trans ?_), valueBytes_some hl⟩
      show BitVec.ofNat 8 (128 + c.run * 16 + c.value.length) = _
      rw [Nat.mul_comm]
    · have hshown : e.shownCandidate = none := by
        unfold Entry.shownCandidate
        split
        next => rfl
        next hk => exact hc.resolve_right hk
      rw [hview.candidateWhole, hshown]
      rfl
  case flags =>
    refine ⟨_, (viewShows he).flags, ?_, ?_, ?_, ?_, ?_, ?_, ?_, ?_⟩
    all_goals exact getLsbD_byteOfBits _ (by decide)

end Sys2Proof.Machine

/-! PROOFS. The setting items: codes, ranges, and what a write leaves (R182, R184, "Setting items"). -/

namespace Sys2Proof.Machine

open Sys2Proof.Safety

/-! ### Codes -/

/-- R184: the range of an item's values. -/
def Item.accepts : Item → Nat → Bool
  | .rate _, n => n == 20 || n == 50 || n == 125 || n == 250
  | .nodeAddress _, n => decide (1 ≤ n ∧ n ≤ 63)
  | .cycleMode _, n => decide (n ≤ 1)
  | .role _, n => decide (n ≤ 1)
  | .cyclePeriod _, n => decide (2 ≤ n ∧ n ≤ 250)
  | .autoRejoin _, n => decide (n ≤ 1)
  | .caution _, n => decide (1 ≤ n ∧ n ≤ 99)
  | .bankMap, _ => true
  | .route _, n => decide (n ≤ 2)

/-- The value an item holds once a number is written. -/
def Item.written : Item → Nat → Nat
  | .bankMap, n => n % 16
  | _, n => n

/-- R182: codes 1 to 0x20 name the items, with the ranges of the table. -/
theorem itemOperand_named {code : Byte} (hlow : 1 ≤ code.toNat) (hhigh : code.toNat ≤ 0x20) :
    ∃ item, itemOperand code = some item ∧
      ∀ v, itemAccepts code v = item.accepts v.toNat ∧ writtenValue code v = item.written v.toNat := by
  obtain ⟨n, hn⟩ : ∃ n, n = code.toNat := ⟨_, rfl⟩
  obtain rfl : code = BitVec.ofNat 8 n := by rw [hn]; simp
  rw [← hn] at hlow hhigh
  interval_cases n <;> exact ⟨_, rfl, fun _ => ⟨rfl, rfl⟩⟩

theorem itemOperand_unnamed {code : Byte} (h : code.toNat = 0 ∨ 0x20 < code.toNat) : itemOperand code = none := by
  unfold itemOperand
  obtain h | h := h
  · rw [h]
    rfl
  · obtain ⟨k, hk⟩ := Nat.exists_eq_add_of_lt h
    have hlen : eventFlags.length = 17 := rfl
    have hnone : eventFlags[k + 17]? = none := List.getElem?_eq_none (by omega)
    rw [show code.toNat = k + 33 by omega]
    simp [hnone]

theorem itemAccepts_unnamed {code : Byte} (h : code.toNat = 0 ∨ 0x20 < code.toNat) (v : BitVec 16) :
    itemAccepts code v = false := by
  unfold itemAccepts
  dsimp only
  repeat rw [if_neg (by omega)]

/-! ### Numbers and values -/

theorem rateOf_spec (n : Nat) (h : (n == 20 || n == 50 || n == 125 || n == 250) = true) :
    ∃ v, rateOf n = some v ∧ v.number = n := by
  simp only [Bool.or_eq_true, beq_iff_eq] at h
  obtain ((rfl | rfl) | rfl) | rfl := h <;> exact ⟨_, rfl, rfl⟩

theorem cycleModeOf_spec {n : Nat} (h : n ≤ 1) : ∃ v, cycleModeOf n = some v ∧ v.number = n := by
  interval_cases n <;> exact ⟨_, rfl, rfl⟩

theorem roleOf_spec {n : Nat} (h : n ≤ 1) : ∃ v, roleOf n = some v ∧ v.number = n := by
  interval_cases n <;> exact ⟨_, rfl, rfl⟩

theorem onOffOf_spec {n : Nat} (h : n ≤ 1) : ∃ v, onOffOf n = some v ∧ v.toNat = n := by
  interval_cases n <;> exact ⟨_, rfl, rfl⟩

theorem routeOf_spec {n : Nat} (h : n ≤ 2) : ∃ v, routeOf n = some v ∧ v.number = n := by
  interval_cases n <;> exact ⟨_, rfl, rfl⟩

theorem rateOf_none {n : Nat} (h : (n == 20 || n == 50 || n == 125 || n == 250) = false) : rateOf n = none := by
  simp only [Bool.or_eq_false_iff, beq_eq_false_iff_ne] at h
  obtain ⟨⟨⟨h20, h50⟩, h125⟩, h250⟩ := h
  unfold rateOf
  simp

/-- BANK_MAP keeps the low four bits (log 17). -/
theorem number_bankMapOf (n : Nat) : (bankMapOf n).number = n % 16 := by
  have hbit : ∀ k, lineNumber (if n.testBit k then LineId.b else .a) = n / 2 ^ k % 2 := by
    intro k
    rw [Nat.testBit_eq_decide_div_mod_eq]
    have hlt : n / 2 ^ k % 2 < 2 := Nat.mod_lt _ (by decide)
    by_cases hone : n / 2 ^ k % 2 = 1
    · simp [hone, lineNumber]
    · simp [hone, lineNumber]
      omega
  show lineNumber (if n.testBit 0 then LineId.b else .a) + 2 * lineNumber (if n.testBit 1 then LineId.b else .a) +
    4 * lineNumber (if n.testBit 2 then LineId.b else .a) + 8 * lineNumber (if n.testBit 3 then LineId.b else .a) = _
  rw [hbit, hbit, hbit, hbit]
  omega

/-! ### Writes -/

section
variable {x : Settings} {n : Nat}

/-- R184: a value out of range is refused. -/
theorem Settings.put_refused {item : Item} (h : item.accepts n = false) : x.put item n = none := by
  cases item with
  | rate l => simp only [Settings.put, rateOf_none h, Option.map_none]
  | bankMap => cases h
  | nodeAddress l | cyclePeriod l | caution l =>
    simp only [Settings.put, within, if_neg (of_decide_eq_false h), Option.map_none]
  | cycleMode l | role l | autoRejoin l =>
    obtain ⟨k, rfl⟩ := Nat.exists_eq_add_of_le' (Nat.not_le.mp (of_decide_eq_false h))
    rfl
  | route f =>
    obtain ⟨k, rfl⟩ := Nat.exists_eq_add_of_le' (Nat.not_le.mp (of_decide_eq_false h))
    rfl

/-- A copy that differs from another at one item. -/
structure WritesItem (x y : Settings) (item : Item) (n : Nat) : Prop where
  written : y.get item = item.written n
  kept : ∀ other, other ≠ item → y.get other = x.get other

/-- The line whose portion holds an item. -/
def Item.line : Item → Option LineId
  | .rate l | .nodeAddress l | .cycleMode l | .role l | .cyclePeriod l | .autoRejoin l | .caution l => some l
  | .bankMap | .route _ => none

/-- A change of one line's items writes the item that it changes among them, and no item outside the line. -/
theorem Settings.putLine_writes {l : LineId} {y : LineSettings} {item : Item} (hline : item.line = some l)
    (h : ∀ other, other.line = some l →
      (x.putLine l y).get other = if other = item then item.written n else x.get other) :
    WritesItem x (x.putLine l y) item n where
  written := by rw [h item hline, if_pos rfl]
  kept other hne := by
    by_cases hl : other.line = some l
    · rw [h other hl, if_neg hne]
    · cases other with
      | bankMap | route _ => rfl
      | rate m | nodeAddress m | cycleMode m | role m | cyclePeriod m | autoRejoin m | caution m =>
        have hm : m ≠ l := fun hm => hl (congrArg some hm)
        simp only [Settings.get, Settings.line_putLine, PerLine.get_set_ne _ _ _ _ hm]

theorem within_of {low high : Nat} (h : low ≤ n ∧ n ≤ high) : within low high n = some n := if_pos h

theorem Routes.get_put (r : Routes) (f g : EventFlag) (v : Route) :
    (r.put f v).get g = if g = f then v else r.get g := by
  cases f with
  | ofLine l x =>
    cases g with
    | ofLine m y =>
      simp only [Routes.put, Routes.get, PerLine.get_set]
      by_cases h : m = l
      · subst h
        by_cases k : y = x <;> simp [Seven.get_put, k]
      · simp [h]
    | queueReady | applyDone | applyFault => rfl
  | queueReady | applyDone | applyFault => cases g <;> rfl

/-- R184: a value in range is written. -/
theorem Settings.put_accepted {item : Item} (h : item.accepts n = true) :
    ∃ y, x.put item n = some y ∧ WritesItem x y item n := by
  cases item with
  | rate l =>
    obtain ⟨v, hv, rfl⟩ := rateOf_spec n h
    exact ⟨_, congrArg (Option.map _) hv, putLine_writes rfl fun other hl => by
      cases other <;> cases hl <;> simp [Settings.get, Item.written]⟩
  | cycleMode l =>
    obtain ⟨v, hv, rfl⟩ := cycleModeOf_spec (of_decide_eq_true h)
    exact ⟨_, congrArg (Option.map _) hv, putLine_writes rfl fun other hl => by
      cases other <;> cases hl <;> simp [Settings.get, Item.written]⟩
  | role l =>
    obtain ⟨v, hv, rfl⟩ := roleOf_spec (of_decide_eq_true h)
    exact ⟨_, congrArg (Option.map _) hv, putLine_writes rfl fun other hl => by
      cases other <;> cases hl <;> simp [Settings.get, Item.written]⟩
  | autoRejoin l =>
    obtain ⟨v, hv, rfl⟩ := onOffOf_spec (of_decide_eq_true h)
    exact ⟨_, congrArg (Option.map _) hv, putLine_writes rfl fun other hl => by
      cases other <;> cases hl <;> simp [Settings.get, Item.written]⟩
  | nodeAddress l | cyclePeriod l | caution l =>
    exact ⟨_, congrArg (Option.map _) (within_of (of_decide_eq_true h)), putLine_writes rfl fun other hl => by
      cases other <;> cases hl <;> simp [Settings.get, Item.written]⟩
  | bankMap =>
    refine ⟨_, rfl, number_bankMapOf n, fun other hne => ?_⟩
    cases other with
    | bankMap => exact absurd rfl hne
    | _ => rfl
  | route f =>
    obtain ⟨v, hv, rfl⟩ := routeOf_spec (of_decide_eq_true h)
    refine ⟨_, congrArg (Option.map _) hv, ?_, fun other hne => ?_⟩
    · simp [Settings.get, Routes.get_put, Item.written]
    · cases other with
      | route g => simp [Settings.get, Routes.get_put, show g ≠ f from fun hg => hne (congrArg Item.route hg)]
      | _ => rfl

end

/-! ### The two requests -/

theorem bytes16_ofNat (n : Nat) : bytes16 (BitVec.ofNat 16 n) = twoBytes n := by
  have hhigh : (BitVec.ofNat 16 n).extractLsb' 8 8 = BitVec.ofNat 8 (n / 256) := by
    apply BitVec.eq_of_toNat_eq
    simp only [BitVec.extractLsb'_toNat, BitVec.toNat_ofNat, Nat.shiftRight_eq_div_pow]
    omega
  have hlow : (BitVec.ofNat 16 n).extractLsb' 0 8 = BitVec.ofNat 8 n := by
    apply BitVec.eq_of_toNat_eq
    simp only [BitVec.extractLsb'_toNat, BitVec.toNat_ofNat, Nat.shiftRight_eq_div_pow]
    omega
  unfold bytes16 twoBytes
  rw [hhigh, hlow]

/-- The pending part of a setting view: whether the item waits, and the value it waits with. -/
def State.pendingBytes (s : State) (item : Item) : List Byte :=
  match s.applySet with
  | some p => if p.waitsFor item = true then 1 :: twoBytes (p.values.get item) else [0, 0, 0]
  | none => [0, 0, 0]

/-- R184: the staged, applied and pending values. -/
theorem State.settingView_eq (s : State) (item : Item) :
    s.settingView item = twoBytes (s.staged.get item) ++ twoBytes (s.applied.get item) ++ s.pendingBytes item := by
  unfold State.settingView State.pendingBytes
  simp only [bytes16_ofNat]
  cases s.applySet with
  | none => simp [twoBytes, byteOfNat]
  | some p => cases hp : p.waitsFor item <;> simp [hp, twoBytes, byteOfNat]

theorem State.settingView_length (s : State) (item : Item) : (s.settingView item).length = 7 := rfl

section
variable {code : Byte} {v : BitVec 16} {s : State} {item : Item}

theorem requestSettingWrite_refused (h : ∀ item, itemOperand code = some item → s.staged.put item v.toNat = none) :
    requestSettingWrite code v s = (s, .plain .badArg) := by
  unfold requestSettingWrite
  cases hcode : itemOperand code with
  | none => rfl
  | some item => simp only [h item hcode]

theorem requestSettingWrite_writes {x : Settings} (hcode : itemOperand code = some item)
    (hx : s.staged.put item v.toNat = some x) : requestSettingWrite code v s = (s.withStaged x, .plain .ok) := by
  simp only [requestSettingWrite, hcode, hx]

theorem requestSettingRead_unnamed (hcode : itemOperand code = none) :
    requestSettingRead code s = (s, .plain .badArg) := by
  simp only [requestSettingRead, hcode]

theorem requestSettingRead_shows (hcode : itemOperand code = some item) :
    requestSettingRead code s = (s, { status := .ok, result := s.settingView item }) := by
  simp only [requestSettingRead, hcode]

end

/-- A code names an item or does not. -/
theorem code_cases (code : Byte) :
    (code.toNat = 0 ∨ 0x20 < code.toNat) ∨ 1 ≤ code.toNat ∧ code.toNat ≤ 0x20 := by omega

/-- Settles O45, from the table of codes and the law of one write. -/
theorem settingsWrittenAndRead : Obligations.SettingsWrittenAndRead := by
  refine ⟨fun code v n s hT => ⟨fun hbad => ?refused, fun hgood => ?written⟩, fun code n s hT =>
    ⟨fun hcode => ?unnamed, fun hlow hhigh => ?shown⟩⟩
  case refused =>
    refine exec_unchanged _ _ n s .badArg rfl hT (requestSettingWrite_refused fun item hitem => ?_)
    obtain hcode | ⟨hlow, hhigh⟩ := code_cases code
    · rw [itemOperand_unnamed hcode] at hitem
      cases hitem
    · obtain ⟨named, hnamed, hv⟩ := itemOperand_named hlow hhigh
      obtain rfl : named = item := Option.some.inj (hnamed.symm.trans hitem)
      exact Settings.put_refused ((hv v).1.symm.trans hbad)
  case written =>
    obtain hcode | ⟨hlow, hhigh⟩ := code_cases code
    · rw [itemAccepts_unnamed hcode] at hgood
      cases hgood
    · obtain ⟨item, hitem, hv⟩ := itemOperand_named hlow hhigh
      obtain ⟨haccepts, hwritten⟩ := hv v
      obtain ⟨x, hx, hwrites⟩ := Settings.put_accepted (x := s.staged) (haccepts.symm.trans hgood)
      exact ⟨item, x, hitem, exec_answered _ _ n s _ .ok [] [] rfl hT (requestSettingWrite_writes hitem hx) rfl,
        hwrites.written.trans hwritten.symm, hwrites.kept⟩
  case unnamed =>
    exact exec_unchanged _ _ n s .badArg rfl hT (requestSettingRead_unnamed (itemOperand_unnamed hcode))
  case shown =>
    obtain ⟨item, hitem, _⟩ := itemOperand_named hlow hhigh
    refine ⟨item, hitem, ?_⟩
    have hexec := exec_answered (.settingRead code n) _ n s s .ok _ _ rfl hT (requestSettingRead_shows hitem)
      (response_full (by rfl))
    rw [show (s.shift (8 * (Request.length (.settingRead code) + n))).settingView item = s.settingView item from rfl,
      s.settingView_eq item] at hexec
    exact hexec

end Sys2Proof.Machine

/-! PROOFS. What freezing, thawing, a boundary and an outcome make of each position and of the queue (R6, R16, R38, R39,
R44 to R46, R61, R65, R158, R160). -/

namespace Sys2Proof.Machine

open Sys2Proof.Safety

/-! ### Events at the directory -/

/-- A condition on the entry at a position; false where none is. -/
def State.noted (s : State) (p : Index → Entry → Bool) (i : Index) : Bool :=
  match s.entry i with
  | some e => p i e
  | none => false

theorem State.noted_some {s : State} {p : Index → Entry → Bool} {i : Index} {e : Entry} (he : s.entry i = some e) :
    s.noted p i = p i e := by
  unfold State.noted
  rw [he]

theorem State.noted_none {s : State} {p : Index → Entry → Bool} {i : Index} (he : s.entry i = none) :
    s.noted p i = false := by
  unfold State.noted
  rw [he]

/-- An event at the directory: what becomes of each entry, and which entries it hands to the queue. -/
structure Reshapes (s t : State) (after : Index → Entry → Entry) (new : Index → Entry → Bool) : Prop where
  entry : ∀ i e, s.entry i = some e → t.entry i = some (after i e)
  vacant : ∀ i, s.entry i = none → t.entry i = none
  queue : Appends s t (s.noted new)

section
variable {s t x y : State} {after : Index → Entry → Entry} {new : Index → Entry → Bool}

theorem Reshapes.of_react (f : Index → Entry → Reaction)
    (h : ∀ i e, s.entry i = some e → (f i e).result e = after i e ∧ (f i e).notifies e = new i e) :
    Reshapes s (s.react f) after new where
  entry i e he := by rw [State.entry_react, he, Option.map_some, (h i e he).1]
  vacant i he := by rw [State.entry_react, he, Option.map_none]
  queue := by
    unfold Appends
    rw [State.queue_react, State.newlyQueued_eq s f (s.noted new)]
    intro i
    cases he : s.entry i with
    | none => exact State.noted_none he
    | some e => exact (State.noted_some he).trans (h i e he).2.symm

/-- The event between two states with the directory and the queue of others. -/
theorem Reshapes.congr (h : Reshapes x y after new) (hse : s.entries = x.entries) (hsq : s.queue = x.queue)
    (hte : t.entries = y.entries) (htq : t.queue = y.queue) : Reshapes s t after new := by
  have hentry : ∀ i, s.entry i = x.entry i := fun i => congrArg (·.get i) hse
  have hlater : ∀ i, t.entry i = y.entry i := fun i => congrArg (·.get i) hte
  refine ⟨fun i e he => ?_, fun i he => ?_, ?_⟩
  · rw [hlater]
    exact h.entry i e ((hentry i).symm.trans he)
  · rw [hlater]
    exact h.vacant i ((hentry i).symm.trans he)
  · have hnoted : s.noted new = x.noted new := funext fun i => by
      unfold State.noted
      rw [hentry]
    unfold Appends
    rw [htq, hsq, hnoted]
    exact h.queue

theorem State.noted_false (s : State) (i : Index) : s.noted (fun _ _ => false) i = false := by
  unfold State.noted
  split <;> rfl

/-- An event that reaches no entry. -/
theorem Reshapes.same (he : t.entries = s.entries) (hq : t.queue = s.queue) :
    Reshapes s t (fun _ e => e) fun _ _ => false where
  entry i e h := (congrArg (·.get i) he).trans h
  vacant i h := (congrArg (·.get i) he).trans h
  queue := by simp [Appends, hq, State.noted_false]

theorem Reshapes.weaken {after' : Index → Entry → Entry} {new' : Index → Entry → Bool} (h : Reshapes s t after new)
    (hw : ∀ i e, s.entry i = some e → after i e = after' i e ∧ new i e = new' i e) : Reshapes s t after' new' where
  entry i e he := (hw i e he).1 ▸ h.entry i e he
  vacant := h.vacant
  queue := by
    have hnoted : s.noted new = s.noted new' := funext fun i => by
      cases he : s.entry i with
      | none => rw [State.noted_none he, State.noted_none he]
      | some e => rw [State.noted_some he, State.noted_some he, (hw i e he).2]
    exact hnoted ▸ h.queue

end

/-! ### One entry -/

section
variable (e : Entry)

/-- R44: what a loss of usability of its home line makes of an entry. -/
theorem Entry.freeze_result :
    e.freeze.result e = (if e.kind ≠ .output ∧ (e.state = .live ∨ e.state = .stale) then frozenEntry e else e) ∧
      e.freeze.notifies e = (e.notify && decide (e.kind ≠ .output ∧ (e.state = .live ∨ e.state = .stale))) := by
  unfold Entry.freeze
  by_cases h : e.kind ≠ .output ∧ (e.state = .live ∨ e.state = .stale)
  · have hs : e.state ≠ .retiring := by obtain ⟨_, hs | hs⟩ := h <;> simp [hs]
    rw [if_pos (by simpa using h), if_pos h]
    simp [Reaction.result, Reaction.notifies, frozenEntry, CauseSet.raise, CauseSet.insert, h, hs]
  · rw [if_neg (by simpa using h), if_neg h]
    simp [h]

/-- R45: what a gain of usability of its home line makes of an entry. -/
theorem Entry.thaw_result :
    e.thaw.result e = (if e.kind ≠ .output ∧ e.state = .frozen then thawedEntry e else e) ∧
      e.thaw.notifies e = (e.notify && decide (e.kind ≠ .output ∧ e.state = .frozen)) := by
  unfold Entry.thaw
  by_cases h : e.kind ≠ .output ∧ e.state = .frozen
  · rw [if_pos (by simpa using h), if_pos h]
    obtain ⟨hk, hs⟩ := h
    simp [Reaction.result, Reaction.notifies, thawedEntry, CauseSet.raise, CauseSet.insert, hk, hs]
  · rw [if_neg (by simpa using h), if_neg h]
    simp [h]

/-- R38, R39: the ageing of a LIVE or STALE receiving side. -/
theorem Entry.ageing_result (hs : e.state = .live ∨ e.state = .stale) :
    e.ageing.result e = agedEntry e ∧ e.ageing.notifies e = (e.notify && decide ((agedEntry e).state ≠ e.state)) := by
  have hr : e.state ≠ .retiring := by obtain hs | hs := hs <;> simp [hs]
  unfold Entry.ageing agedEntry Config.ageCeiling
  dsimp only
  split
  next h => simp [Reaction.result, Reaction.notifies, CauseSet.raise, CauseSet.insert, h.1]
  next => simp [Reaction.result, Reaction.notifies, hr]

/-- R65: a frame owed for the schedule. -/
theorem Entry.schedule_eq (hk : e.kind = .output) (hs : e.state = .live) (number : BitVec 4) :
    (if e.scheduled number then { e with publishPending := true } else e) =
      { e with publishPending := e.publishPending || (decide (InSchedule e number) && e.value.isSome) } := by
  have hsch : e.scheduled number = (decide (InSchedule e number) && e.value.isSome) := by
    rw [Bool.eq_iff_iff]
    simp only [Entry.scheduled, hk, hs, InSchedule, beq_self_eq_true, Bool.true_and, Bool.and_eq_true, beq_iff_eq,
      Bool.decide_and, decide_eq_true_eq]
    tauto
  rw [hsch]
  cases decide (InSchedule e number) && e.value.isSome <;> simp

/-- R60, R61: a sampling at a boundary of a BEACONED line. -/
theorem Entry.sample_beaconed {v : Value} (hv : e.staged = some v) :
    e.sample .beaconed =
      { e with value := some v, staged := none
               publishPending := e.publishPending || (decide (e.mode = .onChange) && decide (e.value ≠ some v)) } := by
  have hmode : e.publishesOnChange .beaconed = decide (e.mode = .onChange) := by
    unfold Entry.publishesOnChange
    cases e.mode <;> rfl
  unfold Entry.sample
  simp only [hv, hmode, bne_value]

/-- R60, R61, R65: the sampling and the schedule of a LIVE OUTPUT entry at a boundary. -/
theorem Entry.atBoundary_live (hk : e.kind = .output) (hs : e.state = .live) (number : BitVec 4) :
    e.atBoundary number = sampledEntry e number := by
  have hsamples : e.samples = !e.held := by simp [Entry.samples, hk, hs]
  have hplain : (if e.samples then e.sample .beaconed else e) = e →
      e.atBoundary number =
        { e with publishPending := e.publishPending || (decide (InSchedule e number) && e.value.isSome) } := by
    intro h
    unfold Entry.atBoundary
    rw [h]
    exact e.schedule_eq hk hs number
  unfold sampledEntry
  split
  next v hstaged =>
    split
    next hheld => exact hplain (by simp [hsamples, hheld])
    next hheld =>
      unfold Entry.atBoundary
      rw [hsamples, Bool.eq_false_iff.mpr hheld, Bool.not_false, if_pos rfl, e.sample_beaconed hstaged]
      refine (Entry.schedule_eq _ ?_ ?_ number).trans ?_
      · exact hk
      · exact hs
      · simp [InSchedule, hheld]
  next hstaged => exact hplain (by simp [Entry.sample, hstaged])

theorem Entry.atBoundary_quiet (hs : e.state ≠ .live) (number : BitVec 4) : e.atBoundary number = e := by
  simp [Entry.atBoundary, Entry.samples, Entry.scheduled, hs]

/-- What a boundary of its home line makes of an entry. -/
theorem Entry.boundary_result {s : State} {l : LineId} {i : Index} (hhome : s.home i = l) (number : BitVec 4)
    (gained : Bool) :
    (e.boundary number gained).result e = afterBoundary s l number gained i e ∧
      (e.boundary number gained).notifies e =
        (e.notify && decide ((afterBoundary s l number gained i e).state ≠ e.state)) := by
  have hafter : afterBoundary s l number gained i e =
      if e.kind = .output then if e.state = .live then sampledEntry e number else e
      else if e.state = .live ∨ e.state = .stale then agedEntry e
      else if e.state = .frozen ∧ gained = true then thawedEntry e
      else e := if_neg (not_not.mpr hhome)
  rw [hafter]
  by_cases hk : e.kind = .output
  · have hboundary : e.boundary number gained = { entry := e.atBoundary number, causes := [] } := by
      unfold Entry.boundary
      rw [hk]
    rw [hboundary, if_pos hk, Reaction.result_quiet]
    by_cases hs : e.state = .live
    · rw [if_pos hs, e.atBoundary_live hk hs]
      refine ⟨rfl, ?_⟩
      have hstate : (sampledEntry e number).state = e.state := by
        unfold sampledEntry
        (repeat' split) <;> rfl
      simp [Reaction.notifies, hstate]
    · rw [if_neg hs, e.atBoundary_quiet hs]
      simp [Reaction.notifies]
  · have hboundary : e.boundary number gained =
        if e.state = .live ∨ e.state = .stale then e.ageing
        else if e.state = .frozen ∧ gained = true then e.thaw else e.unchanged := by
      unfold Entry.boundary
      cases hkind : e.kind with
      | output => exact absurd hkind hk
      | input | bridge => cases e.state <;> simp
    rw [hboundary, if_neg hk]
    split
    next hs => exact e.ageing_result hs
    next =>
      split
      next hs =>
        have hthaw := e.thaw_result
        rw [if_pos ⟨hk, hs.1⟩] at hthaw
        refine ⟨hthaw.1, hthaw.2.trans ?_⟩
        simp [hk, hs.1, thawedEntry]
      next => simp

end

/-! ### Lines -/

section
variable (s : State) (l : LineId)

/-- R44: a loss of usability of a line. -/
theorem State.freezeLine_reshapes :
    Reshapes s (s.freezeLine l)
      (fun i e => if s.home i = l ∧ e.kind ≠ .output ∧ (e.state = .live ∨ e.state = .stale) then frozenEntry e else e)
      fun i e => e.notify && decide (s.home i = l ∧ e.kind ≠ .output ∧ (e.state = .live ∨ e.state = .stale)) := by
  refine .of_react _ fun i e _ => ?_
  by_cases h : s.home i = l
  · simpa [h] using e.freeze_result
  · simp [h]

/-- R45: a gain of usability of a line. -/
theorem State.thawLine_reshapes :
    Reshapes s (s.thawLine l)
      (fun i e => if s.home i = l ∧ e.kind ≠ .output ∧ e.state = .frozen then thawedEntry e else e)
      fun i e => e.notify && decide (s.home i = l ∧ e.kind ≠ .output ∧ e.state = .frozen) := by
  refine .of_react _ fun i e _ => ?_
  by_cases h : s.home i = l
  · simpa [h] using e.thaw_result
  · simp [h]

/-- R38, R39, R46, R61, R65: a boundary of a line. -/
theorem State.boundary_reshapes (number : BitVec 4) (gained : Bool) :
    Reshapes s (s.boundaryAtDirectory l number gained) (afterBoundary s l number gained)
      fun i e => e.notify && decide ((afterBoundary s l number gained i e).state ≠ e.state) := by
  refine .of_react _ fun i e _ => ?_
  by_cases h : s.home i = l
  · rw [if_pos h]
    exact e.boundary_result h number gained
  · have hafter : afterBoundary s l number gained i e = e := if_pos h
    rw [if_neg h, hafter]
    simp

end

end Sys2Proof.Machine

/-! PROOFS. The end of an attempt, and a change of usability, at each position and in the queue (R6, R16, R44, R45, R52,
R76, R82, R158, R160). -/

namespace Sys2Proof.Machine

open Sys2Proof.Safety

/-! ### The end of an attempt -/

/-- What an outcome other than a success makes of directory and queue. -/
structure AttemptEnded (s t : State) (l : LineId) : Prop where
  entry : ∀ i e, s.entry i = some e → t.entry i = afterAttempt s l i e
  vacant : ∀ i, s.entry i = none → t.entry i = none
  queue : t.queue = s.queue.filter fun i => !emptiedBy s l i

section
variable {s t r : State} {l : LineId} {a : Attempt} {x : Ending}

theorem emptiedBy_none {i : Index} (he : s.entry i = none) : emptiedBy s l i = false := by
  unfold emptiedBy
  rw [he]

theorem emptiedBy_some {i : Index} {e : Entry} (he : s.entry i = some e) :
    emptiedBy s l i = (afterAttempt s l i e).isNone := by
  unfold emptiedBy
  rw [he]

/-- R16: the position is emptied when its RETIRING entry owns the frame and has no other in flight. -/
theorem emptiedBy_iff {i : Index} :
    emptiedBy s l i = true ↔ ∃ e, s.entry i = some e ∧ HasFlight s l i e ∧ e.state = .retiring ∧
      e.inFlight.get l.other = false := by
  cases he : s.entry i with
  | none => simp [emptiedBy_none he]
  | some e =>
    rw [emptiedBy_some he]
    unfold afterAttempt
    by_cases hf : HasFlight s l i e
    · rw [if_pos hf]
      by_cases hr : e.state = .retiring ∧ e.inFlight.get l.other = false
      · simpa [hr] using hf
      · rw [if_neg hr]
        refine iff_of_false (by simp) ?_
        rintro ⟨y, hy, _, hretiring⟩
        cases hy
        exact hr hretiring
    · rw [if_neg hf]
      refine iff_of_false (by simp) ?_
      rintro ⟨y, hy, hflight, _⟩
      cases hy
      exact hf hflight

theorem Entry.grounded_landed (e : Entry) (l : LineId) : (e.landed l).grounded = !e.inFlight.get l.other := by
  cases l <;> simp [Entry.landed, Entry.grounded, PerLine.set, PerLine.get, LineId.other]

theorem Entry.outcome_ended (e : Entry) (a : Attempt) (stamp : Option (BitVec 4)) (hx : x ≠ .success) :
    e.outcome a x stamp = e.unchanged := by
  unfold Entry.outcome
  cases x with
  | success => exact absurd rfl hx
  | _ => rfl

/-- R158: an event without causes hands nothing to the queue. -/
theorem State.queue_react_quiet {f : Index → Entry → Reaction}
    (h : ∀ i e, s.entry i = some e → (f i e).causes = []) : (s.react f).queue = s.queue := by
  rw [State.queue_react, State.newlyQueued_eq s f fun _ => false]
  · simp
  · intro i
    cases he : s.entry i with
    | none => rfl
    | some e => simp [Reaction.notifies, h i e he]

/-- R16: an outcome reported for an entry empties its position. -/
def State.emptiesAt (r : State) (l : LineId) (i : Index) : Bool :=
  r.noted (fun _ e => e.inFlight.get l && decide (e.state = .retiring) && !e.inFlight.get l.other) i

/-- R160: an outcome other than a success at one entry moves the queue when it empties the position. -/
theorem queue_reportToEntry_ended (r : State) (l : LineId) (i : Index) (a : Attempt) (hx : x ≠ .success) :
    (r.reportToEntry l i a x).queue = if r.emptiesAt l i then r.queue.filter fun j => j != i else r.queue := by
  unfold State.emptiesAt
  cases he : r.entry i with
  | none =>
    rw [State.noted_none he]
    unfold State.reportToEntry
    rw [he]
    rfl
  | some e =>
    rw [State.noted_some he]
    cases hf : e.inFlight.get l with
    | false =>
      rw [State.reportToEntry_grounded r l i e a x he hf]
      rfl
    | true =>
      unfold State.reportToEntry
      simp only [he, hf, if_true, Bool.true_and, Entry.grounded_landed]
      by_cases hr : e.state = .retiring
      · cases ho : e.inFlight.get l.other <;> simp [hr, State.emptyEntry]
      · rw [if_neg hr, decide_eq_false hr]
        refine State.queue_react_quiet fun j y _ => ?_
        split
        · exact congrArg Reaction.causes (Entry.outcome_ended (y.landed l) a (r.stampNow l) hx)
        · rfl

theorem State.emptiesAt_iff {i : Index} :
    s.emptiesAt l i = true ↔ ∃ e, s.entry i = some e ∧ e.inFlight.get l = true ∧ e.state = .retiring ∧
      e.inFlight.get l.other = false := by
  unfold State.emptiesAt
  cases he : s.entry i with
  | none => simp [State.noted_none he]
  | some e => simp [State.noted_some he, and_assoc]

/-- R16: only the owner's position can be emptied. -/
theorem emptiedBy_owner {i : Index} (ho : ownerEntry (s.line.get l).attempt = some i) (j : Index) :
    emptiedBy s l j = (decide (j = i) && s.emptiesAt l i) := by
  rw [Bool.eq_iff_iff, emptiedBy_iff, Bool.and_eq_true, State.emptiesAt_iff, decide_eq_true_eq]
  constructor
  · rintro ⟨e, he, ⟨hown, hflight⟩, hrest⟩
    obtain rfl : i = j := Option.some.inj (ho.symm.trans hown)
    exact ⟨rfl, e, he, hflight, hrest⟩
  · rintro ⟨rfl, e, he, hflight, hrest⟩
    exact ⟨e, he, ⟨ho, hflight⟩, hrest⟩

theorem emptiedBy_noOwner (ho : ownerEntry (s.line.get l).attempt = none) (j : Index) : emptiedBy s l j = false := by
  rw [Bool.eq_false_iff, Ne, emptiedBy_iff]
  rintro ⟨e, _, ⟨hown, _⟩, _⟩
  rw [ho] at hown
  cases hown

theorem filter_emptied_owner {i : Index} (ho : ownerEntry (s.line.get l).attempt = some i) :
    (s.queue.filter fun j => !emptiedBy s l j) =
      if s.emptiesAt l i then s.queue.filter fun j => j != i else s.queue := by
  simp only [emptiedBy_owner ho]
  cases s.emptiesAt l i with
  | false => simp
  | true =>
    rw [if_pos rfl]
    exact List.filter_congr fun j _ => by by_cases h : j = i <;> simp [h]

/-- An attempt that ends with nothing reported. -/
theorem AttemptEnded.of_noOwner (ho : ownerEntry (s.line.get l).attempt = none) (he : t.entries = s.entries)
    (hq : t.queue = s.queue) : AttemptEnded s t l where
  entry i e hs := by
    have hno : ¬ HasFlight s l i e := by
      rintro ⟨hown, _⟩
      rw [ho] at hown
      cases hown
    rw [show afterAttempt s l i e = some e from if_neg hno]
    exact (congrArg (·.get i) he).trans hs
  vacant i hs := (congrArg (·.get i) he).trans hs
  queue := by simp [emptiedBy_noOwner ho, hq]

/-- R16, R160: an outcome other than a success, reported for the frame in the buffer. -/
theorem report_ends (ha : (s.line.get l).attempt = some a) (hx : x ≠ .success) (hre : r.entries = s.entries)
    (hrq : r.queue = s.queue) : AttemptEnded s (r.report l a x) l := by
  have hentry : ∀ i, r.entry i = s.entry i := fun i => congrArg (·.get i) hre
  refine ⟨fun i e he => ?entry, fun i he => ?vacant, ?queue⟩
  case entry =>
    rw [State.entry_report_ended r l a x hx i, hentry, he]
    unfold afterAttempt HasFlight
    rw [ha]
    rfl
  case vacant => rw [State.entry_report_ended r l a x hx i, hentry, he, Option.bind_none]
  case queue =>
    have hempties : ∀ i, r.emptiesAt l i = s.emptiesAt l i := fun i => by
      unfold State.emptiesAt State.noted
      rw [hentry]
    have howned : ∀ i, ownerEntry (some a) = some i →
        (r.reportToEntry l i a x).queue = s.queue.filter fun j => !emptiedBy s l j := fun i ho => by
      rw [queue_reportToEntry_ended r l i a hx, filter_emptied_owner (ha ▸ ho), hempties, hrq]
    obtain ⟨owner, frame⟩ := a
    cases owner with
    | beacon =>
      have hquiet : r.report l ⟨.beacon, frame⟩ x = r := by
        unfold State.report State.reportToCycleUnit
        cases x with
        | success => exact absurd rfl hx
        | _ => rfl
      rw [hquiet, hrq]
      exact (AttemptEnded.of_noOwner (ha ▸ rfl) rfl rfl).queue
    | publish i => exact howned i rfl
    | ask i => exact howned i rfl

theorem AttemptEnded.moves (h : AttemptEnded s t l) : QueueMoves s t (emptiedBy s l) fun _ => false := by
  unfold QueueMoves
  rw [h.queue]
  simp

/-- The same end, seen from a later state with that directory and queue. -/
theorem AttemptEnded.congr (h : AttemptEnded s r l) (he : t.entries = r.entries) (hq : t.queue = r.queue) :
    AttemptEnded s t l where
  entry i e hs := (congrArg (·.get i) he).trans (h.entry i e hs)
  vacant i hs := (congrArg (·.get i) he).trans (h.vacant i hs)
  queue := hq.trans h.queue

theorem afterAttempt_none {i : Index} {e : Entry} (h : afterAttempt s l i e = none) : e.state = .retiring := by
  unfold afterAttempt at h
  split at h
  · split at h
    next hr => exact hr.1
    next => cases h
  · cases h

theorem afterAttempt_some {i : Index} {e y : Entry} (h : afterAttempt s l i e = some y) :
    y.kind = e.kind ∧ y.state = e.state ∧ y.notify = e.notify := by
  unfold afterAttempt at h
  (repeat' split at h) <;> cases h <;> exact ⟨rfl, rfl, rfl⟩

/-- R44, R158: the end of an attempt, and then a loss of usability that reaches the entries it left. -/
theorem AttemptEnded.thenLoss (h : AttemptEnded s r l)
    (hloss : Reshapes r t (afterLoss s l) fun i e => e.notify && decide (LosesUse s l i e)) :
    (∀ i e, s.entry i = some e → t.entry i = (afterAttempt s l i e).map (afterLoss s l i)) ∧
      (∀ i, s.entry i = none → t.entry i = none) ∧ QueueMoves s t (emptiedBy s l) (frozenAt s l) := by
  have hentry : ∀ i e, s.entry i = some e → t.entry i = (afterAttempt s l i e).map (afterLoss s l i) := by
    intro i e he
    have hr := h.entry i e he
    cases hafter : afterAttempt s l i e with
    | none => exact hloss.vacant i (hr.trans hafter)
    | some y => exact hloss.entry i y (hr.trans hafter)
  refine ⟨hentry, fun i he => hloss.vacant i (h.vacant i he), ?_⟩
  have hqueue := hloss.queue
  unfold Appends at hqueue
  unfold QueueMoves
  rw [hqueue, h.queue]
  refine congrArg _ (List.filter_congr fun i _ => ?_)
  -- an entry that freezes was not RETIRING, so its position was not emptied
  cases he : s.entry i with
  | none =>
    have hnone : frozenAt s l i = false := by
      unfold frozenAt
      rw [he]
    rw [State.noted_none (h.vacant i he), hnone]
    rfl
  | some e =>
    have hfrozen : frozenAt s l i = (e.notify && decide (LosesUse s l i e)) := by
      unfold frozenAt
      rw [he]
    have hr := h.entry i e he
    cases hafter : afterAttempt s l i e with
    | none =>
      have hlost : ¬ LosesUse s l i e := by
        rintro ⟨_, _, _, hs⟩
        rw [afterAttempt_none hafter] at hs
        simp at hs
      rw [State.noted_none (hr.trans hafter), hfrozen, decide_eq_false hlost, Bool.and_false]
      rfl
    | some y =>
      obtain ⟨hk, hs, hn⟩ := afterAttempt_some hafter
      have hkept : emptiedBy s l i = false := by rw [emptiedBy_some he, hafter]; rfl
      have hcontains : (s.queue.filter fun j => !emptiedBy s l j).contains i = s.queue.contains i := by
        rw [Bool.eq_iff_iff]
        simp [hkept]
      rw [State.noted_some (hr.trans hafter), hfrozen, hcontains, hn]
      unfold LosesUse
      rw [hk, hs]

end

/-! ### Reports of line states -/

section
variable {s r : State} {l : LineId} {old : LineState}

/-- R142: a line that stops taking part freezes what its usability held. -/
theorem lineStateReport_leaves (hold : old.participates = true) (hnew : r.participates l = false)
    (hu : usableIn old (r.mode l) (r.cycle.get l).sync = s.usable l) (hhome : ∀ i, r.home i = s.home i) :
    Reshapes r (r.lineStateReport l old) (afterLoss s l) fun i e => e.notify && decide (LosesUse s l i e) := by
  have hreport : r.lineStateReport l old = (r.withCycle l (r.unitLeaves l)).deliverUsability l (s.usable l) := by
    unfold State.lineStateReport
    simp only [hold, hnew, hu]
  have hafter : (r.withCycle l (r.unitLeaves l)).usable l = false := by
    unfold State.usable usableIn
    exact Bool.and_eq_false_iff.mpr (.inl hnew)
  obtain hs | hs := Bool.eq_false_or_eq_true (s.usable l)
  · rw [hs, State.deliverUsability_lost _ _ hafter] at hreport
    rw [hreport]
    have hfreeze : Reshapes r ((r.withCycle l (r.unitLeaves l)).freezeLine l) _ _ :=
      ((r.withCycle l (r.unitLeaves l)).freezeLine_reshapes l).congr rfl rfl rfl rfl
    refine hfreeze.weaken fun i e _ => ?_
    have hiff : ((r.withCycle l (r.unitLeaves l)).home i = l ∧ e.kind ≠ .output ∧ (e.state = .live ∨ e.state = .stale)) ↔
        LosesUse s l i e := by
      rw [State.home_withCycle, hhome]
      simp [LosesUse, hs]
    exact ⟨if_congr hiff rfl rfl, congrArg _ (decide_eq_decide.mpr hiff)⟩
  · rw [hs, State.deliverUsability_same _ _ _ hafter] at hreport
    rw [hreport]
    have hsame : Reshapes r (r.withCycle l (r.unitLeaves l)) _ _ := .same rfl rfl
    exact hsame.weaken fun i e _ => by simp [afterLoss, LosesUse, hs]

/-- R142: a line that starts taking part thaws its entries when that makes it usable. -/
theorem lineStateReport_joins (hold : old.participates = false) (hnew : r.participates l = true) :
    Reshapes r (r.lineStateReport l old)
      (fun i e =>
        if (r.lineStateReport l old).usable l = true ∧ r.home i = l ∧ e.kind ≠ .output ∧ e.state = .frozen then
          thawedEntry e
        else e)
      fun i e => e.notify &&
        decide ((r.lineStateReport l old).usable l = true ∧ r.home i = l ∧ e.kind ≠ .output ∧ e.state = .frozen) := by
  have hreport : r.lineStateReport l old = (r.withCycle l (r.unitJoins l)).deliverUsability l false := by
    unfold State.lineStateReport usableIn
    simp only [hold, hnew, Bool.false_and]
  have husable : (r.lineStateReport l old).usable l = (r.withCycle l (r.unitJoins l)).usable l := by
    rw [hreport]
    exact State.usable_eq (State.participates_of_line (by simp)) (by simp [State.mode]) (by simp)
  rw [husable, hreport]
  cases hu : (r.withCycle l (r.unitJoins l)).usable l with
  | false =>
    rw [State.deliverUsability_same _ _ _ hu]
    have hsame : Reshapes r (r.withCycle l (r.unitJoins l)) _ _ := .same rfl rfl
    exact hsame.weaken fun i e _ => by simp
  | true =>
    rw [State.deliverUsability_gained _ _ hu]
    have hthaw : Reshapes r ((r.withCycle l (r.unitJoins l)).thawLine l) _ _ :=
      ((r.withCycle l (r.unitJoins l)).thawLine_reshapes l).congr rfl rfl rfl rfl
    refine hthaw.weaken fun i e _ => ?_
    have hiff : (r.home i = l ∧ e.kind ≠ .output ∧ e.state = .frozen) ↔
        (true = true ∧ r.home i = l ∧ e.kind ≠ .output ∧ e.state = .frozen) := by rw [eq_self_iff_true, true_and]
    exact ⟨if_congr hiff rfl rfl, congrArg _ (decide_eq_decide.mpr hiff)⟩

/-- R140: a line that takes no part either way leaves the directory. -/
theorem lineStateReport_apart (hold : old.participates = false) (hnew : r.participates l = false) :
    Reshapes r (r.lineStateReport l old) (fun _ e => e) fun _ _ => false := by
  refine .same ?_ ?_ <;>
  · unfold State.lineStateReport
    simp only [hold, hnew]
    split <;> rfl

end

end Sys2Proof.Machine

/-! PROOFS. Frames received: the count, the FORM error, and the frames that reach no block (R69, R84, R96, R109, R124,
R125). -/

namespace Sys2Proof.Machine

open Sys2Proof.Safety

/-! ### Flags and pins -/

theorem State.flag_of_flags {s t : State} (h : t.flags = s.flags) {f : EventFlag} (hf : f ≠ .queueReady) :
    t.flag f = s.flag f := by
  unfold State.flag
  cases f with
  | queueReady => exact absurd rfl hf
  | ofLine l x => simp only [h]
  | applyDone => simp only [h]
  | applyFault => simp only [h]

theorem raises_of_flags {s t : State} (h : t.flags = s.flags) : Raises s t fun _ => false := fun f hf => by
  rw [State.flag_of_flags h hf, Bool.or_false]

/-- A raise, and then events that raise more. -/
theorem raises_trans {s t u : State} {p q : EventFlag → Bool} (h : Raises s t p) (g : Raises t u q) :
    Raises s u fun f => p f || q f := fun f hf => by rw [g f hf, h f hf, Bool.or_assoc]

/-- R165: the pins after an event that ends in their judgement. -/
theorem pinsJudged_judgePins {s x : State} (h : x.pins = s.pins) : PinsJudged s x.judgePins := fun p => by
  rw [State.pins_judgePins, h]
  rfl

/-! ### The count of a frame -/

/-- A frame command is its frame, received. -/
theorem exec_frame {c : Instr} {l : LineId} {w : WireFrame} (h : frameOf c = some (l, w)) (s : State) :
    exec c s = .next (s.receiveFrame l w) := by
  cases c <;> simp only [frameOf, Option.some.injEq, Prod.mk.injEq, reduceCtorEq] at h <;>
    obtain ⟨rfl, rfl⟩ := h <;> rfl

section
variable {s : State} {l : LineId} {w : WireFrame}

theorem participates_of_canReceive (h : s.canReceive l = true) : s.participates l = true := ((canReceive_iff s l).mp h).1

theorem participates_of_sendingAttempt (h : s.sendingAttempt l ≠ none) : s.participates l = true := by
  obtain ⟨a, ha⟩ := Option.ne_none_iff_exists'.mp h
  exact ((sendingAttempt_iff s l a).mp ha).1

/-- R109: only a BEACON reaches the cycle unit, and with it the flags. -/
theorem State.deliver_notBeacon (r : State) (hw : w.kind ≠ 0) :
    (r.deliver l w).cycle = r.cycle ∧ (r.deliver l w).flags = r.flags := by
  unfold State.deliver
  split
  · split <;> exact ⟨rfl, rfl⟩
  · split <;> exact ⟨rfl, rfl⟩
  next hk _ => exact absurd hk hw
  · exact ⟨rfl, rfl⟩

/-- R109, R124, R125: what every good frame makes of its line. -/
structure FrameCounted (s t : State) (l : LineId) (w : WireFrame) : Prop where
  line : t.line.get l = counted (s.line.get l) (s.line.get l).transmitCount ((s.line.get l).receiveCount - 1)
  otherLine : t.line.get l.other = s.line.get l.other
  otherCycle : t.cycle.get l.other = s.cycle.get l.other
  settings : SameSettings s t
  outside : SameOutside s t
  pins : PinsJudged s t
  quiet : w.kind ≠ 0 → t.cycle = s.cycle ∧
    Raises s t (countFlags s l (s.line.get l).transmitCount ((s.line.get l).receiveCount - 1))

theorem takeFrame_counted (s : State) (w : WireFrame) (h : s.participates l = true) :
    FrameCounted s (s.takeFrame l w) l w where
  line := State.line_takeFrame s l w h
  otherLine := by simp
  otherCycle := by simp
  settings := ⟨by simp, by simp, by simp⟩
  outside := ⟨by simp, by simp, by simp⟩
  pins := pinsJudged_judgePins (by simp [State.countReception])
  quiet hw := by
    obtain ⟨hcycle, hflags⟩ := (s.countReception l).deliver_notBeacon (l := l) hw
    refine ⟨hcycle.trans (by simp [State.countReception]), fun f hf => ?_⟩
    have hdelivered : (s.takeFrame l w).flag f = (s.countReception l).flag f := State.flag_of_flags hflags hf
    rw [hdelivered]
    exact State.flag_withCounts s l _ _ f h

/-- R96: a frame that carries nothing usable is delivered to no block. -/
theorem deliver_unusable (r : State) (h : w.unusable = true) : r.deliver l w = r := by
  obtain ⟨hlegal, hcontent⟩ := Bool.and_eq_true_iff.mp h
  unfold State.deliver
  split
  next v hk =>
    have htag : w.tag = 0 := by simpa [hk] using hcontent
    rw [if_pos htag]
  next hk => simp [hk] at hcontent
  next address number hk hp =>
    have hrange : ¬ beaconInRange address number = true := by simpa [hk, hp] using hcontent
    rw [if_neg hrange]
  next => rfl

theorem takeFrame_unusable (h : w.unusable = true) :
    SameDirectory s (s.takeFrame l w) ∧ (s.takeFrame l w).cycle = s.cycle := by
  unfold State.takeFrame
  rw [deliver_unusable _ h]
  exact ⟨⟨by simp [State.countReception], by simp [State.countReception]⟩, by simp [State.countReception]⟩

theorem exec_receiveError (kind : ErrorKind) (h : s.canReceive l = true) (hk : kind.ofReceiver = true) :
    exec (.receiveError l kind) s = .next (s.receiveErrorOn l kind).judgePins := by
  show Host.Outcome.next (if s.canReceive l && kind.ofReceiver then _ else _) = _
  rw [h, hk]
  rfl

end

/-- Settles O24: by the receiving conditions of the line. -/
theorem goodFramesCount : Obligations.GoodFramesCount := by
  intro c l w s hc
  refine ⟨fun hr hw => ?good, fun hr hw => ?illegal, fun hr hw => ?unusable, fun hs hk hw => ?inFlight, fun hr hq => ?none⟩
  case good =>
    refine ⟨_, (exec_frame hc s).trans (congrArg _ (State.receiveFrame_legal s l w hr hw)), ?_⟩
    have h := takeFrame_counted (l := l) (s.withEngine l (.intermission 0)) w (participates_of_canReceive (s := s) hr)
    exact ⟨h.line, by simp, ⟨h.otherLine, by simp, h.otherCycle⟩, h.settings, h.outside, h.pins, h.quiet⟩
  case illegal =>
    rw [exec_frame hc s, State.receiveFrame_illegal s l w hr hw, exec_receiveError .form hr rfl]
  case unusable =>
    have hw' : w.legal = true := (Bool.and_eq_true_iff.mp hw).1
    exact ⟨_, (exec_frame hc s).trans (congrArg _ (State.receiveFrame_legal s l w hr hw')),
      takeFrame_unusable (s := s.withEngine l (.intermission 0)) hw⟩
  case inFlight =>
    have hq := (queriedInFlight_iff s l w).mpr ⟨hs, hk, hw⟩
    refine ⟨_, (exec_frame hc s).trans (congrArg _ (State.receiveFrame_inFlight s l w hq)), ?_⟩
    have h := takeFrame_counted (l := l) s w (participates_of_sendingAttempt hs)
    have hquery : w.kind ≠ 0 := by rw [hk]; decide
    obtain ⟨hcycle, hraises⟩ := h.quiet hquery
    exact ⟨h.line, by simp, hcycle, ⟨h.otherLine, by simp, h.otherCycle⟩, h.settings, h.outside, h.pins, hraises⟩
  case none =>
    have hq' : s.queriedInFlight l w = false := by
      rw [Bool.eq_false_iff, Ne, queriedInFlight_iff]
      rintro ⟨hs, hk, hw⟩
      obtain hnone | hkind | hlegal := hq
      · exact hs hnone
      · exact hkind hk
      · rw [hw] at hlegal
        cases hlegal
    rw [exec_frame hc s, State.receiveFrame_none s l w hr hq']

end Sys2Proof.Machine

/-! PROOFS. DATA, QUERY and RECALL frames at the directory (R21 to R24, R30 to R36, R48, R67 to R69, R77, R84, R158). -/

namespace Sys2Proof.Machine

open Sys2Proof.Safety

/-! ### What a frame meets -/

/-- Two states in which a frame meets the same directory. -/
structure SameView (s r : State) : Prop where
  entries : r.entries = s.entries
  queue : r.queue = s.queue
  applied : r.applied = s.applied
  cycle : r.cycle = s.cycle

section
variable {s r : State} {l : LineId}

theorem SameView.entry (h : SameView s r) (i : Index) : r.entry i = s.entry i := congrArg (·.get i) h.entries

theorem SameView.home (h : SameView s r) (i : Index) : r.home i = s.home i :=
  State.home_of_bankMap (congrArg Settings.bankMap h.applied) i

theorem SameView.receivingMatch (h : SameView s r) (t : Tag) : r.receivingMatch l t = s.receivingMatch l t := by
  have hmatch : r.inReceivingMatch l t = s.inReceivingMatch l t := funext fun i => by
    unfold State.inReceivingMatch
    rw [h.entry, h.home]
  unfold State.receivingMatch
  rw [hmatch]

theorem SameView.publishingMatch (h : SameView s r) (t : Tag) : r.publishingMatch l t = s.publishingMatch l t := by
  have hmatch : r.inPublishingMatch l t = s.inPublishingMatch l t := funext fun i => by
    unfold State.inPublishingMatch
    rw [h.entry, h.applied]
  unfold State.publishingMatch
  rw [hmatch]

theorem SameView.stampNow (h : SameView s r) : r.stampNow l = s.stampNow l := by
  unfold State.stampNow State.mode
  rw [h.applied, h.cycle]

/-- R109: a good frame is counted and then delivered; the count leaves what the frame meets. -/
theorem frame_delivered {c : Instr} {w : WireFrame} (hc : frameOf c = some (l, w))
    (h : s.canReceive l = true ∧ w.legal = true ∨ s.queriedInFlight l w = true) :
    ∃ r, SameView s r ∧ exec c s = .next (r.deliver l w).judgePins := by
  obtain ⟨hr, hw⟩ | hq := h
  · exact ⟨(s.withEngine l (.intermission 0)).countReception l,
      ⟨by simp [State.countReception], by simp [State.countReception], by simp [State.countReception],
        by simp [State.countReception]⟩,
      (exec_frame hc s).trans (congrArg _ (State.receiveFrame_legal s l w hr hw))⟩
  · exact ⟨s.countReception l,
      ⟨by simp [State.countReception], by simp [State.countReception], by simp [State.countReception],
        by simp [State.countReception]⟩,
      (exec_frame hc s).trans (congrArg _ (State.receiveFrame_inFlight s l w hq))⟩

/-- The event at the directory that a frame is, whatever the reactions to it. -/
theorem SameView.react_reshapes (h : SameView s r) (f : Index → Entry → Reaction) :
    Reshapes s (r.react f).judgePins (fun i e => (f i e).result e) fun i e => (f i e).notifies e :=
  (Reshapes.of_react f fun _ _ _ => ⟨rfl, rfl⟩ : Reshapes r (r.react f) _ _).congr h.entries.symm h.queue.symm rfl rfl

end

/-! ### DATA -/

section
variable {s : State} {l : LineId} {tag : Tag} {v : Value}

/-- What a DATA frame makes of an entry. -/
def State.dataReaction (s : State) (l : LineId) (tag : Tag) (v : Value) (i : Index) (e : Entry) : Reaction :=
  if s.receivingMatch l tag = some i then e.receive v (s.stampNow l)
  else if s.publishingMatch l tag = some i then { entry := e, causes := [.conflict] }
  else e.unchanged

theorem exec_dataFrame (hr : s.canReceive l = true) (ht : tag ≠ 0) (hv : v.length ≤ 8) :
    ∃ t, exec (.dataFrame l tag v) s = .next t ∧
      Reshapes s t (fun i e => (s.dataReaction l tag v i e).result e) fun i e => (s.dataReaction l tag v i e).notifies e := by
  have hlegal : ({ tag := tag, kind := 2, payload := v } : WireFrame).legal = true := decide_eq_true hv
  obtain ⟨r, hview, hexec⟩ := frame_delivered (s := s) (c := .dataFrame l tag v) rfl (.inl ⟨hr, hlegal⟩)
  refine ⟨_, hexec, ?_⟩
  have hdeliver : r.deliver l { tag := tag, kind := 2, payload := v } = r.react (s.dataReaction l tag v) := by
    have hdata : r.deliver l { tag := tag, kind := 2, payload := v } = r.deliverData l tag v := if_neg ht
    rw [hdata]
    unfold State.deliverData State.dataReaction
    simp only [hview.receivingMatch, hview.publishingMatch, hview.stampNow]
  rw [hdeliver]
  exact hview.react_reshapes _

/-- R3, R22, R24: no entry receives a tag on the line on which it publishes it. -/
theorem receivingMatch_ne_publishingMatch {i : Index} (h : s.receivingMatch l tag = some i) :
    s.publishingMatch l tag ≠ some i := by
  intro hp
  obtain ⟨e, he, hk, hhome, _⟩ := (s.inReceivingMatch_iff l tag i).mp (List.find?_some h)
  obtain ⟨x, hx, _, hside⟩ := (s.inPublishingMatch_iff l tag i).mp (List.find?_some hp)
  rw [he] at hx
  cases hx
  obtain ⟨hout, _⟩ | ⟨_, hother, _⟩ := hside
  · exact hk hout
  · exact LineId.other_ne _ (hother.trans hhome.symm)

end

/-- R33: the run that the value makes, and the candidate that records it. -/
def Entry.runAfter (e : Entry) (v : Value) : Nat :=
  match e.candidate with
  | some c => if c.value = v then c.run + 1 else 1
  | none => 1

section
variable {e : Entry} {v : Value}

theorem Entry.nextCandidate_eq (e : Entry) (v : Value) : e.nextCandidate v = { value := v, run := e.runAfter v } := by
  unfold Entry.nextCandidate Entry.runAfter
  cases e.candidate with
  | none => rfl
  | some c => dsimp only; split <;> rfl

/-- R31: the causes after the first step. -/
def Entry.freshenedCauses (e : Entry) : CauseSet :=
  { e.causes with freshened := e.causes.freshened || decide (e.state = .stale) }

theorem Entry.freshening_raised (e : Entry) :
    e.freshening.foldl CauseSet.raise e.causes = e.freshenedCauses := by
  unfold Entry.freshening Entry.freshenedCauses
  by_cases hs : e.state = .stale <;> simp [hs, CauseSet.raise, CauseSet.insert]

/-- R30 to R32: a reception of the value the entry holds. -/
theorem Entry.accept_same (hs : e.state = .live ∨ e.state = .stale) (hv : e.value = some v)
    (stamp : Option (BitVec 4)) :
    (e.accept v stamp).result e =
      { e with age := 0, state := .live, candidate := none, causes := e.freshenedCauses } := by
  have hr : e.state ≠ .retiring := by obtain hs | hs := hs <;> simp [hs]
  unfold Entry.accept
  rw [if_pos hv, Reaction.result_live _ _ hr, e.freshening_raised]

/-- R33, R34: a reception of another value whose run falls short of CONFIRM. -/
theorem Entry.accept_waits (hs : e.state = .live ∨ e.state = .stale) (hv : e.value ≠ some v)
    (hrun : e.runAfter v ≠ e.confirm) (stamp : Option (BitVec 4)) :
    (e.accept v stamp).result e =
      { e with age := 0, state := .live, candidate := some { value := v, run := e.runAfter v }
               causes := e.freshenedCauses } := by
  have hr : e.state ≠ .retiring := by obtain hs | hs := hs <;> simp [hs]
  unfold Entry.accept
  rw [e.nextCandidate_eq, if_neg hv, if_neg hrun, Reaction.result_live _ _ hr, e.freshening_raised]

/-- R35, R36: a reception that brings the run to CONFIRM commits the value. -/
theorem Entry.accept_commits (hs : e.state = .live ∨ e.state = .stale) (hv : e.value ≠ some v)
    (hrun : e.runAfter v = e.confirm) (stamp : Option (BitVec 4)) :
    (e.accept v stamp).result e =
      { e with age := 0, state := .live, value := some v, candidate := none, stamp := stamp
               publishPending := e.publishPending || decide (e.kind = .bridge)
               causes := { e.freshenedCauses with
                           committed := true
                           superseded := e.freshenedCauses.superseded || e.freshenedCauses.committed } } := by
  have hr : e.state ≠ .retiring := by obtain hs | hs := hs <;> simp [hs]
  have hcommit : e.freshenedCauses.raise .committed =
      { e.freshenedCauses with
        committed := true
        superseded := e.freshenedCauses.superseded || e.freshenedCauses.committed } := by
    unfold CauseSet.raise CauseSet.insert
    cases hc : e.freshenedCauses.committed <;> simp
  unfold Entry.accept
  rw [e.nextCandidate_eq, if_neg hv, if_pos hrun, Reaction.result_live _ _ hr, List.foldl_append, e.freshening_raised,
    List.foldl_cons, List.foldl_nil, hcommit]
  have hkind : (e.kind == .bridge) = decide (e.kind = .bridge) := by cases e.kind <;> rfl
  rw [hkind]

end

section
variable {s : State} {l : LineId} {tag : Tag} {v : Value} {i : Index} {e : Entry}

theorem dataReaction_received (h : s.receivingMatch l tag = some i) (hs : e.state = .live ∨ e.state = .stale) :
    s.dataReaction l tag v i e = e.accept v (s.stampNow l) := by
  unfold State.dataReaction Entry.receive
  rw [if_pos h]
  obtain hs | hs := hs <;> rw [hs]

theorem dataReaction_frozen (h : s.receivingMatch l tag = some i) (hs : e.state = .frozen) :
    s.dataReaction l tag v i e = e.unchanged := by
  unfold State.dataReaction Entry.receive
  rw [if_pos h, hs]

theorem dataReaction_published (h : s.publishingMatch l tag = some i) :
    s.dataReaction l tag v i e = { entry := e, causes := [.conflict] } := by
  unfold State.dataReaction
  rw [if_neg fun hr => receivingMatch_ne_publishingMatch hr h, if_pos h]

theorem dataReaction_elsewhere (hr : s.receivingMatch l tag ≠ some i) (hp : s.publishingMatch l tag ≠ some i) :
    s.dataReaction l tag v i e = e.unchanged := by
  unfold State.dataReaction
  rw [if_neg hr, if_neg hp]

/-- Settles O25, by the three outcomes of an accepted reception. -/
theorem dataAccepted : Obligations.DataAccepted := by
  intro l tag v s i e hr ht hv hmatch he hs
  obtain ⟨t, hexec, hshape⟩ := exec_dataFrame hr ht hv
  have hentry := hshape.entry i e he
  rw [dataReaction_received hmatch hs] at hentry
  refine ⟨t, hexec, fun hsame => ?_, fun hother hrun => ?_, fun hother hrun => ?_⟩
  · exact hentry.trans (congrArg some (Entry.accept_same hs hsame _))
  · exact hentry.trans (congrArg some (Entry.accept_waits hs hother hrun _))
  · exact hentry.trans (congrArg some (Entry.accept_commits hs hother hrun _))

/-- R31, R35, R158: an accepted reception tells its host when it freshens the entry or changes its value. -/
theorem Entry.accept_notifies (hs : e.state = .live ∨ e.state = .stale) (stamp : Option (BitVec 4)) :
    (e.accept v stamp).notifies e =
      (e.notify && (decide (e.state = .stale) ||
        decide (e.state = .live ∧ ((e.accept v stamp).result e).value ≠ e.value))) := by
  have hfreshening : e.freshening.isEmpty = !decide (e.state = .stale) := by
    unfold Entry.freshening
    by_cases h : e.state = .stale <;> simp [h]
  have hnotifies : (e.accept v stamp).notifies e = (e.notify && !(e.accept v stamp).causes.isEmpty) := by
    have hlive : (e.state != .retiring) = true := by obtain hs | hs := hs <;> rw [hs] <;> rfl
    unfold Reaction.notifies
    rw [hlive, Bool.and_true]
  rw [hnotifies]
  refine congrArg _ ?_
  by_cases hsame : e.value = some v
  · rw [Entry.accept_same hs hsame]
    simp [Entry.accept, hsame, hfreshening]
  · by_cases hrun : e.runAfter v = e.confirm
    · rw [Entry.accept_commits hs hsame hrun]
      have hcauses : (e.accept v stamp).causes.isEmpty = false := by
        simp [Entry.accept, e.nextCandidate_eq, hsame, hrun]
      rw [hcauses]
      obtain hs | hs := hs <;> simp [hs, Ne.symm hsame]
    · rw [Entry.accept_waits hs hsame hrun]
      simp [Entry.accept, e.nextCandidate_eq, hsame, hrun, hfreshening]

theorem appends_congr {s t : State} {p q : Index → Bool} (h : Appends s t p) (hpq : ∀ i, p i = q i) : Appends s t q :=
  funext hpq ▸ h

/-- Settles O26, by what the frame is to each entry. -/
theorem dataElsewhere : Obligations.DataElsewhere := by
  intro l tag v s hr ht hv
  obtain ⟨t, hexec, hshape⟩ := exec_dataFrame hr ht hv
  refine ⟨t, hexec, fun i hnr hnp => ?elsewhere, fun i e hm he hs => ?frozen, fun i e hm he => ?published, ?queue⟩
  case elsewhere =>
    cases he : s.entry i with
    | none => exact hshape.vacant i he
    | some e => rw [hshape.entry i e he, dataReaction_elsewhere hnr hnp, Reaction.result_unchanged]
  case frozen => rw [hshape.entry i e he, dataReaction_frozen hm hs, Reaction.result_unchanged]
  case published =>
    have hlive : e.state ≠ .retiring := (publishingMatch_wins hm he).2
    rw [hshape.entry i e he, dataReaction_published hm, Reaction.result_live _ _ hlive]
    rfl
  case queue =>
    refine appends_congr hshape.queue fun i => ?_
    cases he : s.entry i with
    | none => rw [State.noted_none he]
    | some e =>
      rw [State.noted_some he, hshape.entry i e he]
      dsimp only
      by_cases hm : s.receivingMatch l tag = some i
      · have hp := receivingMatch_ne_publishingMatch hm
        obtain ⟨_, _, hs⟩ := receivingMatch_wins hm he
        by_cases hf : e.state = .frozen
        · simp [dataReaction_frozen hm hf, hp, hf]
        · have hs' : e.state = .live ∨ e.state = .stale := by simpa [hf] using hs
          rw [dataReaction_received hm hs', Entry.accept_notifies hs']
          simp [hm, hp]
      · by_cases hp : s.publishingMatch l tag = some i
        · have hlive : e.state ≠ .retiring := (publishingMatch_wins hp he).2
          simp [dataReaction_published hp, Reaction.notifies, hlive, hp]
        · simp [dataReaction_elsewhere hm hp, hm, hp]

end

/-! ### QUERY and RECALL -/

section
variable {s : State} {l : LineId} {tag : Tag} {i : Index} {e : Entry}

/-- R67, R84: the entry after a query that reaches it. -/
def Entry.owing (e : Entry) : Entry := { e with publishPending := true, causes := { e.causes with queried := true } }

/-- R67, R84: a LIVE, STALE or FROZEN entry owes a frame. -/
theorem Entry.queried_owes (hs : e.state = .live ∨ e.state = .stale ∨ e.state = .frozen) :
    e.queried.result e = e.owing ∧ e.queried.notifies e = e.notify := by
  unfold Entry.queried
  obtain hs | hs | hs := hs <;>
    simp [hs, Reaction.result, Reaction.notifies, Entry.owing, CauseSet.raise, CauseSet.insert]

theorem Entry.queried_ignored (hs : ¬ (e.state = .live ∨ e.state = .stale ∨ e.state = .frozen)) :
    e.queried = e.unchanged := by
  unfold Entry.queried
  cases h : e.state <;> simp [h] at hs ⊢

/-- R69, R84: what a query finds when the line takes it. -/
theorem query_taken {c : Instr} {w : WireFrame} (hc : frameOf c = some (l, w)) (hk : w.kind = 1) (hw : w.legal = true)
    (h : s.canReceive l = true ∨ s.sendingAttempt l ≠ none) :
    ∃ r, SameView s r ∧ exec c s = .next (r.deliver l w).judgePins := by
  refine frame_delivered hc ?_
  obtain hr | hs := h
  · exact .inl ⟨hr, hw⟩
  · exact .inr ((queriedInFlight_iff s l w).mpr ⟨hs, hk, hw⟩)

/-- Settles O27: the winner of the publishing match is queried. -/
theorem queryOwesFrame : Obligations.QueryOwesFrame := by
  intro l tag s htaken ht
  obtain ⟨r, hview, hexec⟩ := query_taken (c := .queryFrame l tag) rfl rfl rfl htaken
  have hdeliver : r.deliver l { tag := tag, kind := 1, payload := [] } =
      r.react fun i e => if s.publishingMatch l tag = some i then e.queried else e.unchanged := by
    have hquery : r.deliver l { tag := tag, kind := 1, payload := [] } = r.deliverQuery l tag := if_neg ht
    rw [hquery]
    unfold State.deliverQuery
    simp only [hview.publishingMatch]
  rw [hdeliver] at hexec
  have hshape := hview.react_reshapes fun i e => if s.publishingMatch l tag = some i then e.queried else e.unchanged
  refine ⟨_, hexec, fun i e hm he hs => ?owes, fun i e hm he hs => ?spent, fun i hm => ?elsewhere, ?queue⟩
  case owes =>
    rw [hshape.entry i e he]
    exact congrArg some ((congrArg (Reaction.result · e) (if_pos hm)).trans (Entry.queried_owes hs).1)
  case spent =>
    have hignored : e.queried = e.unchanged := Entry.queried_ignored (by simp [hs])
    rw [hshape.entry i e he]
    rw [if_pos hm, hignored, Reaction.result_unchanged]
  case elsewhere =>
    cases he : s.entry i with
    | none => exact hshape.vacant i he
    | some e =>
      rw [hshape.entry i e he]
      rw [if_neg hm, Reaction.result_unchanged]
  case queue =>
    refine appends_congr hshape.queue fun i => ?_
    cases he : s.entry i with
    | none => rw [State.noted_none he]
    | some e =>
      rw [State.noted_some he]
      dsimp only
      by_cases hm : s.publishingMatch l tag = some i
      · have hlive : e.state ≠ .retiring := (publishingMatch_wins hm he).2
        by_cases hs : e.state = .live ∨ e.state = .stale ∨ e.state = .frozen
        · have hspent : e.state ≠ .spent := by obtain hs | hs | hs := hs <;> simp [hs]
          rw [if_pos hm, (Entry.queried_owes hs).2]
          simp [hm, hspent]
        · have hspent : e.state = .spent := by cases h : e.state <;> simp_all
          rw [if_pos hm, Entry.queried_ignored hs]
          simp [hspent]
      · simp [hm]

/-- R68, R84: a RECALL reaches the entries that answer it and publish on the line. -/
theorem recalled_iff :
    s.recalled l i e = true ↔ e.answersRecall = true ∧
      ((e.kind = .output ∧ s.home i = l) ∨ (e.kind = .bridge ∧ (s.home i).other = l)) := by
  unfold State.recalled publishingSide State.home
  cases hk : e.kind <;> simp

/-- Settles O28: every entry the sweep reaches is queried. -/
theorem recallSweeps : Obligations.RecallSweeps := by
  intro l s reached htaken hreached
  obtain ⟨r, hview, hexec⟩ := query_taken (c := .recallFrame l) rfl rfl rfl htaken
  have hdeliver : r.deliver l { tag := 0, kind := 1, payload := [] } =
      r.react fun i e => if s.recalled l i e then e.queried else e.unchanged := by
    have hrecall : r.deliver l { tag := 0, kind := 1, payload := [] } = r.deliverRecall l := rfl
    have hsame : ∀ i e, r.recalled l i e = s.recalled l i e := fun i e => by
      unfold State.recalled
      rw [hview.applied]
    rw [hrecall]
    unfold State.deliverRecall
    simp only [hsame]
  rw [hdeliver] at hexec
  have hshape := hview.react_reshapes fun i e => if s.recalled l i e then e.queried else e.unchanged
  -- the sweep passes over an entry that is not reached
  have hswept : ∀ i e, (reached i e = true → (if s.recalled l i e then e.queried else e.unchanged).result e = e.owing ∧
        (if s.recalled l i e then e.queried else e.unchanged).notifies e = e.notify) ∧
      (reached i e = false → (if s.recalled l i e then e.queried else e.unchanged) = e.unchanged) := by
    intro i e
    refine ⟨fun h => ?_, fun h => ?_⟩
    · obtain ⟨hrecall, hside, hs⟩ := (hreached i e).mp h
      rw [if_pos (recalled_iff.mpr ⟨hrecall, hside⟩)]
      exact Entry.queried_owes hs
    · split
      next hr =>
        obtain ⟨hrecall, hside⟩ := recalled_iff.mp hr
        refine Entry.queried_ignored fun hs => ?_
        rw [(hreached i e).mpr ⟨hrecall, hside, hs⟩] at h
        cases h
      next => rfl
  refine ⟨_, hexec, fun i e he h => ?owes, fun i e he h => ?passed, fun i he => hshape.vacant i he, ?queue⟩
  case owes => exact (hshape.entry i e he).trans (congrArg some ((hswept i e).1 h).1)
  case passed =>
    refine (hshape.entry i e he).trans (congrArg some ?_)
    rw [(hswept i e).2 h, Reaction.result_unchanged]
  case queue =>
    refine appends_congr hshape.queue fun i => ?_
    cases he : s.entry i with
    | none => rw [State.noted_none he]
    | some e =>
      rw [State.noted_some he]
      dsimp only
      cases h : reached i e with
      | true => rw [((hswept i e).1 h).2, Bool.and_true]
      | false => rw [(hswept i e).2 h, Reaction.notifies_unchanged, Bool.and_false]

end

end Sys2Proof.Machine

/-! PROOFS. Boundaries: the FOLLOWER's, the yielding SOURCE's and that of the line's own BEACON, at the unit and at the
directory (R38, R39, R45, R46, R61, R65, R139, R144, R145, R151, R152, R158). -/

namespace Sys2Proof.Machine

open Sys2Proof.Safety

/-! ### One boundary -/

section
variable {s y : State} {l : LineId} {number : BitVec 4}

/-- R145: the end of the hold-off. -/
def endsHoldOff (u : CycleUnit) : Bool := decide (u.sync = .regaining ∧ (syncAfter u).1 = .synced)

theorem State.flag_takeBoundary (y : State) (l : LineId) (number : BitVec 4) {f : EventFlag} (hf : f ≠ .queueReady) :
    (y.takeBoundary l number).flag f =
      (y.flag f || (f == .ofLine l .syncGained && endsHoldOff (y.cycle.get l))) := by
  have hends : ((y.cycle.get l).sync == .regaining &&
      ({ y.cycle.get l with cycle := number, watchTimer := y.watchInterval l } : CycleUnit).advance.sync == .synced) =
        endsHoldOff (y.cycle.get l) := by
    unfold endsHoldOff
    rw [advance_eq, Bool.decide_and]
    rfl
  unfold State.takeBoundary
  dsimp only
  rw [hends, State.flag_of_flags (s := State.raiseIf _ _ _) (State.flags_boundaryAtDirectory _ _ _ _) hf,
    State.flag_raiseIf _ _ _ _ (by simp), State.flag_withCycle, Bool.and_comm (f == _)]

/-- The state in which a boundary is taken, against the one in which its frame came. -/
structure Awaits (s y : State) (l : LineId) : Prop where
  entries : y.entries = s.entries
  queue : y.queue = s.queue
  applied : y.applied = s.applied
  sync : (y.cycle.get l).sync = (s.cycle.get l).sync
  partakes : y.participates l = true

/-- R45, R145: on a line that takes part, a boundary brings a gain of usability when it ends the hold-off of a BEACONED
line. -/
theorem gained_eq (hp : y.participates l = true) (number : BitVec 4) :
    (!y.usable l && (y.takeBoundary l number).usable l) =
      (decide (y.mode l = .beaconed) && endsHoldOff (y.cycle.get l)) := by
  have husable : y.usable l = (y.mode l == .free || (y.cycle.get l).sync == .synced) := by
    unfold State.usable usableIn
    rw [show (y.line.get l).state.participates = true from hp, Bool.true_and]
  have hafter : (y.takeBoundary l number).usable l = (y.mode l == .free || (syncAfter (y.cycle.get l)).1 == .synced) := by
    have hmode : (y.takeBoundary l number).mode l = y.mode l := by simp [State.mode]
    unfold State.usable usableIn
    rw [State.line_takeBoundary, State.cycle_takeBoundary, hmode,
      show (y.line.get l).state.participates = true from hp, Bool.true_and]
    rfl
  rw [husable, hafter]
  unfold endsHoldOff syncAfter
  cases y.mode l with
  | free => simp
  | beaconed =>
    cases hs : (y.cycle.get l).sync with
    | regaining => by_cases hz : (y.cycle.get l).holdOff - 1 = 0 <;> simp [hz]
    | _ => simp

/-- R38, R39, R45, R46, R61, R65, R158: the boundary at the directory. -/
theorem boundary_taken {t : State} (h : Awaits s y l) (hte : t.entries = (y.takeBoundary l number).entries)
    (htq : t.queue = (y.takeBoundary l number).queue)
    (htc : t.cycle.get l = (y.takeBoundary l number).cycle.get l) : BoundaryTaken s t l number := by
  obtain ⟨x, hentries, hqueue, happlied, hx⟩ := y.takeBoundary_eq l number
  rw [gained_eq h.partakes] at hx
  have hgains : (decide (y.mode l = .beaconed) && endsHoldOff (y.cycle.get l)) = gainsSync s t l := by
    have hmode : y.mode l = s.mode l := by
      unfold State.mode
      rw [h.applied]
    unfold gainsSync endsHoldOff
    rw [htc, State.cycle_takeBoundary, hmode, h.sync, Bool.decide_and, Bool.decide_and, Bool.decide_and]
    rfl
  rw [hgains] at hx
  have hafter : ∀ i e, afterBoundary x l number (gainsSync s t l) i e = afterBoundary s l number (gainsSync s t l) i e := by
    intro i e
    have hhome : x.home i = s.home i := State.home_of_bankMap (by rw [happlied, h.applied]) i
    unfold afterBoundary
    rw [hhome]
  have hshape : Reshapes s t (afterBoundary x l number (gainsSync s t l)) _ :=
    (x.boundary_reshapes l number (gainsSync s t l)).congr (hentries.trans h.entries).symm (hqueue.trans h.queue).symm
      (by rw [hte, hx]) (by rw [htq, hx])
  refine ⟨fun i e he => by rw [hshape.entry i e he, hafter], hshape.vacant, appends_congr hshape.queue fun i => ?_⟩
  cases he : s.entry i with
  | none => rw [State.noted_none he]
  | some e => rw [State.noted_some he, hafter]

end

/-! ### BEACONs received -/

section
variable {s : State} {l : LineId} {address number : Byte}

/-- The state in which a good BEACON is delivered: it has been counted. -/
structure BeaconCounted (s r : State) (l : LineId) : Prop extends Awaits s r l where
  cycle : r.cycle = s.cycle
  raises : Raises s r (countFlags s l (s.line.get l).transmitCount ((s.line.get l).receiveCount - 1))

theorem exec_beaconFrame (hr : s.canReceive l = true) (hb : beaconInRange address number = true) :
    ∃ r, BeaconCounted s r l ∧ exec (.beaconFrame l address number) s =
      .next (r.deliverBeacon l address.toNat (number.setWidth 4)).judgePins := by
  have hlegal : ({ tag := 0, kind := 0, payload := [address, number] } : WireFrame).legal = true := rfl
  have hp : (s.withEngine l (.intermission 0)).participates l = true := participates_of_canReceive (s := s) hr
  refine ⟨(s.withEngine l (.intermission 0)).countReception l, ?_, ?_⟩
  · exact {
      entries := by simp [State.countReception]
      queue := by simp [State.countReception]
      applied := by simp [State.countReception]
      sync := by simp [State.countReception]
      partakes := State.participates_withCounts _ l _ _ hp
      cycle := by simp [State.countReception]
      raises := fun f _ => State.flag_withCounts _ l _ _ f hp }
  · have hdeliver : ∀ r : State, r.deliver l { tag := 0, kind := 0, payload := [address, number] } =
        r.deliverBeacon l address.toNat (number.setWidth 4) := fun r => if_pos hb
    rw [exec_frame (c := .beaconFrame l address number) rfl s, State.receiveFrame_legal s l _ hr hlegal]
    unfold State.takeFrame
    rw [hdeliver]

theorem State.deliverBeacon_follower (r : State) (a : Nat) (n : BitVec 4) (hm : r.mode l = .beaconed)
    (hf : (r.cycle.get l).acting = .follower) : r.deliverBeacon l a n = r.takeBoundary l n := by
  unfold State.deliverBeacon
  rw [hm, hf]

theorem State.deliverBeacon_free (r : State) (a : Nat) (n : BitVec 4) (hm : r.mode l = .free) :
    r.deliverBeacon l a n = r := by
  unfold State.deliverBeacon
  rw [hm]

theorem State.deliverBeacon_source (r : State) (a : Nat) (n : BitVec 4) (hm : r.mode l = .beaconed)
    (hf : (r.cycle.get l).acting = .source) :
    r.deliverBeacon l a n =
      if a < (r.applied.line.get l).nodeAddress then
        ((r.withCycle l (r.cycle.get l).yield).raise (.ofLine l .yielded)).takeBoundary l n
      else r.raise (.ofLine l .contested) := by
  unfold State.deliverBeacon
  rw [hm, hf]

theorem BeaconCounted.mode {r : State} (h : BeaconCounted s r l) : r.mode l = s.mode l := by
  unfold State.mode
  rw [h.applied]

theorem unitAfter_congr {r : State} (h : r.applied = s.applied) (u : CycleUnit) (n : BitVec 4) :
    unitAfter r l u n = unitAfter s l u n := by
  unfold unitAfter
  rw [h]

/-- R144: a FOLLOWER takes the BEACON as a boundary. -/
theorem exec_beaconFrame_follower (hr : s.canReceive l = true) (hb : beaconInRange address number = true)
    (hm : s.mode l = .beaconed) (hf : (s.cycle.get l).acting = .follower) :
    ∃ r, BeaconCounted s r l ∧
      exec (.beaconFrame l address number) s = .next (r.takeBoundary l (number.setWidth 4)).judgePins := by
  obtain ⟨r, hcount, hexec⟩ := exec_beaconFrame hr hb
  have hacting : (r.cycle.get l).acting = .follower := by rw [hcount.cycle, hf]
  rw [State.deliverBeacon_follower r _ _ (hcount.mode.trans hm) hacting] at hexec
  exact ⟨r, hcount, hexec⟩

/-- Settles O29: the boundary's unit and flags. -/
theorem followerTakesBeacon : Obligations.FollowerTakesBeacon := by
  intro l address number s hr hb hm hf
  obtain ⟨r, hcount, hexec⟩ := exec_beaconFrame_follower hr hb hm hf
  have hunit : (r.takeBoundary l (number.setWidth 4)).cycle.get l =
      unitAfter s l (s.cycle.get l) (number.setWidth 4) := by
    rw [State.cycle_takeBoundary, unitAfter_congr hcount.applied, hcount.cycle]
  refine ⟨_, hexec, hunit, fun f hqueue => ?_⟩
  have hflag := (State.flag_takeBoundary r l (number.setWidth 4) hqueue).trans
    (congrArg (· || _) (hcount.raises f hqueue))
  rw [State.cycle_judgePins, hunit, ← Bool.or_assoc]
  rw [hcount.cycle] at hflag
  exact hflag

/-- Settles O30. -/
theorem boundaryAtDirectory : Obligations.BoundaryAtDirectory := by
  intro l address number s hr hb hm hf
  obtain ⟨r, hcount, hexec⟩ := exec_beaconFrame_follower hr hb hm hf
  exact ⟨_, hexec, boundary_taken hcount.toAwaits rfl rfl rfl⟩

/-- R125, R127: the count raises no flag of the cycle unit. -/
theorem countFlags_unit {t r : Nat} {f : LineFlag} (hs : f ≠ .lineState) (hc : f ≠ .caution) :
    countFlags s l t r (.ofLine l f) = false := by
  simp [countFlags, hs, hc]

theorem ofLine_beq_ne {f g : LineFlag} (h : f ≠ g) : (EventFlag.ofLine l f == EventFlag.ofLine l g) = false := by
  simpa using h

/-- Settles O31, by the three places of the unit. -/
theorem sourceMeetsBeacon : Obligations.SourceMeetsBeacon := by
  intro l address number s hr hb
  obtain ⟨r, hcount, hexec⟩ := exec_beaconFrame hr hb
  have hcontested : r.flag (.ofLine l .contested) = s.flag (.ofLine l .contested) := by
    rw [hcount.raises _ (by simp), countFlags_unit (by simp) (by simp), Bool.or_false]
  have hyielded : r.flag (.ofLine l .yielded) = s.flag (.ofLine l .yielded) := by
    rw [hcount.raises _ (by simp), countFlags_unit (by simp) (by simp), Bool.or_false]
  refine ⟨_, hexec, fun hm hsource hlow => ?yields, fun hm hsource hhigh => ?contested, fun hm => ?free⟩
  case yields =>
    have hacting : (r.cycle.get l).acting = .source := by rw [hcount.cycle, hsource]
    rw [State.deliverBeacon_source r _ _ (hcount.mode.trans hm) hacting, hcount.applied, if_pos hlow]
    have hawaits : Awaits s ((r.withCycle l (r.cycle.get l).yield).raise (.ofLine l .yielded)) l := {
      entries := hcount.entries
      queue := hcount.queue
      applied := hcount.applied
      sync := by
        rw [State.cycle_raise, State.cycle_withCycle, PerLine.get_set_self, hcount.cycle]
        rfl
      partakes := hcount.partakes }
    refine ⟨?_, boundary_taken hawaits rfl rfl rfl, ?_, ?_⟩
    · rw [State.cycle_judgePins, State.cycle_takeBoundary, unitAfter_congr hawaits.applied, State.cycle_raise,
        State.cycle_withCycle, PerLine.get_set_self, hcount.cycle]
      rfl
    · rw [State.flag_judgePins, State.flag_takeBoundary _ _ _ (by simp), State.flag_raise _ _ _ (by simp)]
      simp
    · rw [State.flag_judgePins, State.flag_takeBoundary _ _ _ (by simp), State.flag_raise _ _ _ (by simp),
        State.flag_withCycle, hcontested, ofLine_beq_ne (by decide), ofLine_beq_ne (by decide)]
      simp
  case contested =>
    have hacting : (r.cycle.get l).acting = .source := by rw [hcount.cycle, hsource]
    rw [State.deliverBeacon_source r _ _ (hcount.mode.trans hm) hacting, hcount.applied, if_neg (not_lt.mpr hhigh)]
    refine ⟨hcount.cycle, ⟨hcount.entries, hcount.queue⟩, ?_, ?_⟩
    · rw [State.flag_judgePins, State.flag_raise _ _ _ (by simp)]
      simp
    · rw [State.flag_judgePins, State.flag_raise _ _ _ (by simp), hyielded, ofLine_beq_ne (by decide), Bool.or_false]
  case free =>
    rw [State.deliverBeacon_free r _ _ (hcount.mode.trans hm)]
    exact ⟨hcount.cycle, hcount.entries, hcount.queue⟩

end

/-! ### Timers -/

section
variable {s : State} {l : LineId}

theorem exec_periodExpiry_running (h : (s.cycle.get l).periodTimer ≠ .stopped) :
    exec (.periodExpiry l) s = .next (s.periodExpires l) := by
  show execPeriodExpiry l s = _
  unfold execPeriodExpiry
  cases hp : (s.cycle.get l).periodTimer with
  | stopped => exact absurd hp h
  | running n => rfl

theorem exec_periodExpiry_stopped (h : (s.cycle.get l).periodTimer = .stopped) :
    exec (.periodExpiry l) s = .next s := by
  show execPeriodExpiry l s = _
  unfold execPeriodExpiry
  rw [h]

/-- Settles O32. -/
theorem periodExpirySetsDue : Obligations.PeriodExpirySetsDue := fun _ _ =>
  ⟨exec_periodExpiry_running, exec_periodExpiry_stopped⟩

theorem exec_watchExpiry_running (h : (s.cycle.get l).watchTimer ≠ .stopped) :
    exec (.watchExpiry l) s = .next (s.watchExpires l).judgePins := by
  show execWatchExpiry l s = _
  unfold execWatchExpiry
  cases hp : (s.cycle.get l).watchTimer with
  | stopped => exact absurd hp h
  | running n => rfl

theorem exec_watchExpiry_stopped (h : (s.cycle.get l).watchTimer = .stopped) : exec (.watchExpiry l) s = .next s := by
  show execWatchExpiry l s = _
  unfold execWatchExpiry
  rw [h]

/-- R147: the state in which the watch's expiry reaches the directory. -/
def State.watchLost (s : State) (l : LineId) : State :=
  (s.withCycle l { s.cycle.get l with watchTimer := .stopped, sync := .unsynced, holdOff := 0 }).raiseIf
    ((s.cycle.get l).sync == .synced) (.ofLine l .syncLost)

theorem watchExpires_eq (s : State) (l : LineId) :
    s.watchExpires l = ((s.watchLost l).deliverUsability l (s.usable l)).resume l := rfl

theorem usable_watchLost (s : State) (l : LineId) :
    (s.watchLost l).usable l = (s.participates l && (s.mode l == .free)) := by
  have hsync : ((s.watchLost l).cycle.get l).sync = .unsynced := by simp [State.watchLost]
  have hline : (s.watchLost l).line = s.line := by simp [State.watchLost]
  have hmode : (s.watchLost l).mode l = s.mode l := by simp [State.watchLost, State.mode]
  have hno : (SyncState.unsynced == .synced) = false := rfl
  unfold State.usable usableIn
  rw [hsync, hline, hmode, hno, Bool.or_false]
  rfl

/-- R44, R147: the entry freezes when the watch of its home line expires. -/
abbrev WatchFreezes (s : State) (l : LineId) (i : Index) (e : Entry) : Prop :=
  s.usable l = true ∧ s.mode l = .beaconed ∧ s.home i = l ∧ e.kind ≠ .output ∧ (e.state = .live ∨ e.state = .stale)

/-- R44, R147: the expiry loses the usability of a BEACONED line. -/
theorem watchExpires_reshapes (s : State) (l : LineId) :
    Reshapes s (s.watchExpires l).judgePins (fun i e => if WatchFreezes s l i e then frozenEntry e else e)
      fun i e => e.notify && decide (WatchFreezes s l i e) := by
  have hentries : (s.watchLost l).entries = s.entries := by simp [State.watchLost]
  have hqueue : (s.watchLost l).queue = s.queue := by simp [State.watchLost]
  have hhome : ∀ i, (s.watchLost l).home i = s.home i := fun i => by simp [State.watchLost]
  have hevent := watchExpires_eq s l
  by_cases hfreezes : s.usable l = true ∧ s.mode l = .beaconed
  · have hlost : (s.watchLost l).usable l = false := by
      rw [usable_watchLost, hfreezes.2]
      exact Bool.and_false _
    rw [hfreezes.1, State.deliverUsability_lost _ _ hlost] at hevent
    rw [hevent]
    have hfreeze : Reshapes s (((s.watchLost l).freezeLine l).resume l).judgePins _ _ :=
      ((s.watchLost l).freezeLine_reshapes l).congr hentries.symm hqueue.symm
        (State.entries_resume ((s.watchLost l).freezeLine l) l) (State.queue_resume ((s.watchLost l).freezeLine l) l)
    refine hfreeze.weaken fun i e _ => ?_
    have hiff : ((s.watchLost l).home i = l ∧ e.kind ≠ .output ∧ (e.state = .live ∨ e.state = .stale)) ↔
        WatchFreezes s l i e := by
      rw [hhome]
      simp [WatchFreezes, hfreezes]
    exact ⟨if_congr hiff rfl rfl, congrArg _ (decide_eq_decide.mpr hiff)⟩
  · have hkept : (s.watchLost l).usable l = s.usable l := by
      rw [usable_watchLost]
      unfold State.usable usableIn
      cases hm : s.mode l with
      | free => simp [State.participates]
      | beaconed =>
        have hu : s.usable l = false := Bool.eq_false_iff.mpr fun hu => hfreezes ⟨hu, hm⟩
        unfold State.usable usableIn at hu
        rw [hm] at hu
        rw [hu]
        exact Bool.and_false _
    rw [State.deliverUsability_same _ _ _ hkept] at hevent
    rw [hevent]
    have hsame : Reshapes s ((s.watchLost l).resume l).judgePins _ _ :=
      .same ((State.entries_resume _ l).trans hentries) ((State.queue_resume _ l).trans hqueue)
    refine hsame.weaken fun i e _ => ?_
    have hno : ¬ WatchFreezes s l i e := fun ⟨hu, hm, _⟩ => hfreezes ⟨hu, hm⟩
    rw [if_neg hno, decide_eq_false hno, Bool.and_false]
    exact ⟨rfl, rfl⟩

theorem flags_watchExpires (s : State) (l : LineId) : (s.watchExpires l).flags = (s.watchLost l).flags := by
  rw [watchExpires_eq, State.flags_resume, State.flags_deliverUsability]

/-- Settles O33. -/
theorem watchExpiryLosesSync : Obligations.WatchExpiryLosesSync := by
  intro l s
  refine ⟨exec_watchExpiry_stopped, fun h => ⟨_, exec_watchExpiry_running h, ?_⟩⟩
  have hshape := watchExpires_reshapes s l
  refine ⟨?unit, ?raises, ?line, ?engine, ?other, ?settings, ?outside, ?pins, hshape.entry, hshape.vacant, ?queue⟩
  case unit => exact State.cycle_watchExpires s l
  case raises =>
    intro f hf
    have hflags : (s.watchExpires l).judgePins.flag f = (s.watchLost l).flag f :=
      State.flag_of_flags (flags_watchExpires s l) hf
    have hsync : ((s.cycle.get l).sync == .synced) = decide ((s.cycle.get l).sync = .synced) := by
      cases (s.cycle.get l).sync <;> rfl
    rw [hflags]
    unfold State.watchLost
    rw [State.flag_raiseIf _ _ _ _ (by simp), State.flag_withCycle, hsync, Bool.and_comm]
  case line => simp
  case engine => simp
  case other => simp
  case settings => exact ⟨by simp, by simp, by simp⟩
  case outside => exact ⟨by simp, by simp, by simp⟩
  case pins => exact pinsJudged_judgePins (by simp)
  case queue =>
    exact appends_congr hshape.queue fun i => by
      cases he : s.entry i with
      | none => rw [State.noted_none he]
      | some e => rw [State.noted_some he]

end

end Sys2Proof.Machine

/-! PROOFS. Transmit selection (R6, R133 to R135, R150). -/

namespace Sys2Proof.Machine

open Sys2Proof.Safety

/-! ### The lowest index that offers -/

/-- A search over the positions takes the lowest index that has an answer. -/
theorem findSome_indices {α : Type} {f : Index → Option α} {i : Index} {a : α} (hi : f i = some a)
    (hlow : ∀ j, j < i → f j = none) : indices.findSome? f = some a := by
  cases h : indices.findSome? f with
  | none =>
    rw [List.findSome?_eq_none_iff] at h
    rw [h i (List.mem_finRange i)] at hi
    cases hi
  | some b =>
    obtain ⟨before, k, rest, hsplit, hk, hbefore⟩ := List.findSome?_eq_some_iff.mp h
    have hsorted : (before ++ k :: rest).Pairwise (· < ·) := hsplit ▸ (List.sortedLT_finRange 64).pairwise
    have hmem : i ∈ before ++ k :: rest := hsplit ▸ List.mem_finRange i
    obtain hearly | hlate := List.mem_append.mp hmem
    · rw [hbefore i hearly] at hi
      cases hi
    · obtain rfl | hafter := List.mem_cons.mp hlate
      · rw [← hi, ← hk]
      · have hki : k < i := List.rel_of_pairwise_cons (List.pairwise_append.mp hsorted).2.1 hafter
        rw [hlow k hki] at hk
        cases hk

/-! ### Offers -/

section
variable {s : State} {l : LineId} {i : Index} {e : Entry} {v : Value} {a : Attempt}

/-- R134: an ask offered. -/
theorem offer_ask (h : OffersAsk s l i e) : s.offer l i e = some { owner := .ask i, frame := .query e.tag } := by
  obtain ⟨hpending, hflight, hkind, hhome, hstate⟩ := h
  have hasks : (e.askPending && !e.inFlight.get l && e.state.receives && s.home i == l) = true := by
    simp [hpending, hflight, hhome, (EntryState.receives_iff _).mpr hstate]
  unfold State.offer
  dsimp only
  rw [hasks]
  cases hk : e.kind with
  | output => exact absurd hk hkind
  | input => rfl
  | bridge => cases e.value <;> rfl

/-- R134, R135: a publish offered. -/
theorem offer_publish (h : OffersPublish s l i e v) :
    s.offer l i e = some { owner := .publish i, frame := .data (publishTag e) v } := by
  obtain ⟨hpending, hheld, hvalue, hflight, ⟨hkind, hhome, hstate⟩ | ⟨hkind, hhome, hstate⟩⟩ := h
  · unfold State.offer publishTag
    simp [hkind, hvalue, hpending, hheld, hflight, hstate, hhome]
  · have hnoAsk : (s.home i == l) = false := by
      rw [← hhome]
      exact beq_eq_false_iff_ne.mpr fun h => LineId.other_ne _ h.symm
    unfold State.offer publishTag
    simp [hkind, hvalue, hpending, hheld, hflight, hhome, (EntryState.receives_iff _).mpr hstate, hnoAsk]

/-- R134: nothing is offered but by an ask or a publish. -/
theorem offers_of_offer (h : s.offer l i e = some a) : OffersAsk s l i e ∨ ∃ v, OffersPublish s l i e v := by
  have hask : (e.askPending && !e.inFlight.get l && e.state.receives && s.home i == l) = true → e.kind ≠ .output →
      OffersAsk s l i e := by
    intro hasks hk
    simp only [Bool.and_eq_true, Bool.not_eq_true', beq_iff_eq, EntryState.receives_iff] at hasks
    obtain ⟨⟨⟨hpending, hflight⟩, hstate⟩, hhome⟩ := hasks
    exact ⟨hpending, hflight, hk, hhome, hstate⟩
  unfold State.offer at h
  dsimp only at h
  cases hk : e.kind with
  | input =>
    rw [hk] at h
    dsimp only at h
    split at h
    next hasks => exact .inl (hask hasks (by simp [hk]))
    next => cases h
  | output =>
    cases hv : e.value with
    | none => simp [hk, hv] at h
    | some v =>
      rw [hk, hv] at h
      dsimp only at h
      split at h
      next hpublishes =>
        simp only [Bool.and_eq_true, Bool.not_eq_true', beq_iff_eq] at hpublishes
        obtain ⟨⟨⟨⟨hpending, hheld⟩, hflight⟩, hstate⟩, hhome⟩ := hpublishes
        exact .inr ⟨v, hpending, hheld, hv, hflight, .inl ⟨hk, hhome, hstate⟩⟩
      next => cases h
  | bridge =>
    cases hv : e.value with
    | none =>
      rw [hk, hv] at h
      dsimp only at h
      split at h
      next hasks => exact .inl (hask hasks (by simp [hk]))
      next => cases h
    | some v =>
      rw [hk, hv] at h
      dsimp only at h
      split at h
      next hasks => exact .inl (hask hasks (by simp [hk]))
      next =>
        split at h
        next hpublishes =>
          simp only [Bool.and_eq_true, Bool.not_eq_true', beq_iff_eq, EntryState.receives_iff] at hpublishes
          obtain ⟨⟨⟨⟨hpending, hheld⟩, hflight⟩, hstate⟩, hhome⟩ := hpublishes
          exact .inr ⟨v, hpending, hheld, hv, hflight, .inr ⟨hk, hhome, hstate⟩⟩
        next => cases h

theorem offerAt_nothing (h : OffersNothing s l i) : s.offerAt l i = none := by
  unfold State.offerAt
  cases he : s.entry i with
  | none => rfl
  | some e =>
    obtain ⟨hpublish, hask⟩ := h e he
    by_contra hoffer
    obtain ⟨a, ha⟩ := Option.ne_none_iff_exists'.mp hoffer
    obtain h | ⟨v, h⟩ := offers_of_offer ha
    · exact hask h
    · exact hpublish v h

theorem offerAt_some (he : s.entry i = some e) : s.offerAt l i = s.offer l i e := by
  unfold State.offerAt
  rw [he]

end

/-! ### The selection -/

section
variable {s : State} {l : LineId} {i : Index} {e : Entry} {a : Attempt}

theorem exec_transmitSelection_some (h : s.selection l = some a) :
    exec (.transmitSelection l) s = .next (s.copyFrame l a) := by
  show execTransmitSelection l s = _
  unfold execTransmitSelection
  rw [h]

theorem exec_transmitSelection_none (h : s.selection l = none) : exec (.transmitSelection l) s = .next s := by
  show execTransmitSelection l s = _
  unfold execTransmitSelection
  rw [h]

theorem selection_eq (hs : s.canSelect l = true) : s.selection l = s.choice l := if_pos hs

theorem choice_noBeacon (hb : s.mode l = .free ∨ (s.cycle.get l).due = false) :
    s.choice l = indices.findSome? (s.offerAt l) := by
  have hnone : s.beaconDue l = false := by
    unfold State.beaconDue
    obtain hm | hd := hb
    · rw [hm]; rfl
    · rw [hd]; exact Bool.and_false _
  unfold State.choice
  rw [hnone]
  rfl

/-- R135: the copy of an entry's frame. -/
theorem copyFrame_entry (he : s.entry i = some e) (ho : a.owner = .publish i ∨ a.owner = .ask i) :
    s.copyFrame l a = withCopy s l i e a := by
  have hlaunch : (s.withLine l { s.line.get l with attempt := some a }).launch l i = withCopy s l i e a := by
    unfold State.launch
    rw [State.entry_withLine, he]
    rfl
  unfold State.copyFrame
  obtain ho | ho := ho <;> rw [ho] <;> exact hlaunch

/-- R134, R135: with no beacon due, the lowest index that offers a frame has it copied. -/
theorem exec_selection_entry (hs : s.canSelect l = true) (hb : s.mode l = .free ∨ (s.cycle.get l).due = false)
    (he : s.entry i = some e) (hlow : ∀ j, j < i → OffersNothing s l j) (ho : s.offer l i e = some a)
    (howner : a.owner = .publish i ∨ a.owner = .ask i) :
    exec (.transmitSelection l) s = .next (withCopy s l i e a) := by
  have hselection : s.selection l = some a := by
    rw [selection_eq hs, choice_noBeacon hb]
    exact findSome_indices ((offerAt_some he).trans ho) fun j hj => offerAt_nothing (hlow j hj)
  rw [exec_transmitSelection_some hselection, copyFrame_entry he howner]

/-- Settles O34, by what is due and who offers first. -/
theorem selectionTakesLowest : Obligations.SelectionTakesLowest := by
  intro l s
  refine ⟨fun hs => ?cannot, fun hs => ⟨fun hm hd => ?beacon, fun hb =>
    ⟨fun i e v he hlow h => ?publish, fun i e he hlow h => ?ask, fun hnone => ?nothing⟩⟩⟩
  case cannot =>
    have hnone : s.selection l = none := by
      unfold State.selection
      rw [hs]
      rfl
    exact exec_transmitSelection_none hnone
  case beacon =>
    have hdue : s.beaconDue l = true := by
      unfold State.beaconDue
      rw [hm, hd]
      rfl
    have hselection : s.selection l = some (s.beaconFrame l) := (selection_eq hs).trans (if_pos hdue)
    rw [exec_transmitSelection_some hselection]
    rfl
  case publish => exact exec_selection_entry hs hb he hlow (offer_publish h) (.inl rfl)
  case ask => exact exec_selection_entry hs hb he hlow (offer_ask h) (.inr rfl)
  case nothing =>
    have hselection : s.selection l = none := by
      rw [selection_eq hs, choice_noBeacon hb, List.findSome?_eq_none_iff]
      exact fun i _ => offerAt_nothing (hnone i)
    exact exec_transmitSelection_none hselection

end

end Sys2Proof.Machine

/-! PROOFS. Attempts that succeed, and those that lose the line (R5, R6, R16, R52, R74, R75, R82, R103, R104, R110, R124,
R136, R151). -/

namespace Sys2Proof.Machine

open Sys2Proof.Safety

/-! ### The sender's events -/

section
variable {s : State} {l : LineId} {a : Attempt}

theorem exec_transmitSuccess (h : s.sendingAttempt l = some a) :
    exec (.transmitSuccess l) s = .next (s.transmitSucceeds l a) := by
  show execTransmitSuccess l s = _
  unfold execTransmitSuccess
  rw [h]

theorem exec_transmitSuccess_none (h : s.sendingAttempt l = none) : exec (.transmitSuccess l) s = .next s := by
  show execTransmitSuccess l s = _
  unfold execTransmitSuccess
  rw [h]

theorem exec_arbitrationLoss (h : s.sendingAttempt l = some a) :
    exec (.arbitrationLoss l) s = .next (s.losesArbitration l a) := by
  show execArbitrationLoss l s = _
  unfold execArbitrationLoss
  rw [h]

theorem exec_arbitrationLoss_none (h : s.sendingAttempt l = none) : exec (.arbitrationLoss l) s = .next s := by
  show execArbitrationLoss l s = _
  unfold execArbitrationLoss
  rw [h]

theorem exec_startCollision {k : Nat} (h : s.sendingAttempt l = some a) (hk : s.engine.get l = .idle k) :
    exec (.startCollision l) s = .next (s.collides l a) := by
  show execStartCollision l s = _
  unfold execStartCollision
  rw [h, hk]
  rfl

theorem exec_startCollision_none (h : s.sendingAttempt l = none) : exec (.startCollision l) s = .next s := by
  show execStartCollision l s = _
  unfold execStartCollision
  rw [h]

theorem exec_transmitError {kind : ErrorKind} (h : s.sendingAttempt l = some a) (hk : kind ≠ .check) :
    exec (.transmitError l kind) s = .next (s.transmitErrorOn l kind a).judgePins := by
  show execTransmitError l kind s = _
  unfold execTransmitError
  rw [h]
  cases kind with
  | check => exact absurd rfl hk
  | _ => rfl

theorem exec_transmitError_none {kind : ErrorKind} (h : s.sendingAttempt l = none ∨ kind = .check) :
    exec (.transmitError l kind) s = .next s := by
  show execTransmitError l kind s = _
  unfold execTransmitError
  obtain h | rfl := h
  · rw [h]
  · cases s.sendingAttempt l <;> rfl

theorem participates_of_attempt (h : s.sendingAttempt l = some a) : s.participates l = true :=
  ((sendingAttempt_iff s l a).mp h).1

theorem buffered_of_attempt (h : s.sendingAttempt l = some a) : (s.line.get l).attempt = some a :=
  ((sendingAttempt_iff s l a).mp h).2.1

end

/-! ### Successes -/

/-- R110, R124: the state in which a success is reported. -/
def State.sent (s : State) (l : LineId) : State :=
  ((s.withEngine l (.intermission 0)).countTransmission l).emptyBuffer l

section
variable {s : State} {l : LineId} {a : Attempt}

theorem transmitSucceeds_eq (s : State) (l : LineId) (a : Attempt) :
    s.transmitSucceeds l a = ((s.sent l).report l a .success).judgePins := rfl

theorem sent_view (s : State) (l : LineId) : SameView s (s.sent l) where
  entries := by simp [State.sent, State.countTransmission, State.emptyBuffer]
  queue := by simp [State.sent, State.countTransmission, State.emptyBuffer]
  applied := by simp [State.sent, State.countTransmission, State.emptyBuffer]
  cycle := by simp [State.sent, State.countTransmission, State.emptyBuffer]

theorem sent_raises (h : s.participates l = true) :
    Raises s (s.sent l) (countFlags s l ((s.line.get l).transmitCount - 1) (s.line.get l).receiveCount) := fun f _ =>
  State.flag_withCounts (s.withEngine l (.intermission 0)) l _ _ f h

theorem participates_sent (h : s.participates l = true) : (s.sent l).participates l = true :=
  (State.participates_emptyBuffer _ l l).trans
    (State.participates_withCounts (s.withEngine l (.intermission 0)) l _ _ h)

/-- Settles O35. -/
theorem successAtLine : Obligations.SuccessAtLine := by
  intro l s
  refine ⟨fun h => ⟨exec_transmitSuccess_none h, exec_arbitrationLoss_none h, exec_startCollision_none h,
    fun kind => exec_transmitError_none (.inl h)⟩, exec_transmitError_none (.inr rfl), fun a ha =>
      ⟨_, exec_transmitSuccess ha, State.line_transmitSucceeds s l a (participates_of_attempt ha),
        State.engine_transmitSucceeds s l a, ?_, ?_, ?_, ?_⟩⟩
  · exact ⟨State.line_transmitSucceeds_other s l a, State.engine_transmitSucceeds_other s l a,
      by simp [State.transmitSucceeds]⟩
  · exact ⟨by simp [State.transmitSucceeds], by simp [State.transmitSucceeds], by simp [State.transmitSucceeds]⟩
  · exact ⟨by simp [State.transmitSucceeds], by simp [State.transmitSucceeds], by simp [State.transmitSucceeds]⟩
  · exact pinsJudged_judgePins (by simp [State.countTransmission, State.emptyBuffer])

/-- The report of a success to the entry that owns the frame. -/
theorem report_owner {i : Index} {x : Ending} (r : State) (ho : a.owner = .publish i ∨ a.owner = .ask i) :
    r.report l a x = r.reportToEntry l i a x := by
  unfold State.report
  obtain ho | ho := ho <;> rw [ho]

/-- R151: a success of the line's own BEACON. -/
theorem report_beacon (r : State) (address : Nat) (number : BitVec 4) :
    r.report l { owner := .beacon, frame := .beacon address number } .success =
      (r.withCycle l { r.cycle.get l with due := false, fresh := false }).takeBoundary l number := rfl

/-- Settles O37. -/
theorem ownBeaconIsBoundary : Obligations.OwnBeaconIsBoundary := by
  intro l s address number ha
  have hp := participates_of_attempt ha
  have hview := sent_view s l
  refine ⟨_, exec_transmitSuccess ha, ?_⟩
  rw [transmitSucceeds_eq, report_beacon]
  generalize hy : (s.sent l).withCycle l { (s.sent l).cycle.get l with due := false, fresh := false } = y
  have hcycle : y.cycle.get l = { s.cycle.get l with due := false, fresh := false } := by
    rw [← hy, State.cycle_withCycle, PerLine.get_set_self, hview.cycle]
  have hawaits : Awaits s y l := by
    refine ⟨?_, ?_, ?_, by rw [hcycle], ?_⟩ <;> rw [← hy]
    · exact hview.entries
    · exact hview.queue
    · exact hview.applied
    · exact participates_sent hp
  have hunit : (y.takeBoundary l number).cycle.get l =
      unitAfter s l { s.cycle.get l with due := false, fresh := false } number := by
    rw [State.cycle_takeBoundary, unitAfter_congr hawaits.applied, hcycle]
  refine ⟨hunit, fun f hf => ?_, boundary_taken hawaits rfl rfl rfl⟩
  have hsent : y.flag f = (s.flag f ||
      countFlags s l ((s.line.get l).transmitCount - 1) (s.line.get l).receiveCount f) := by
    rw [← hy]
    exact sent_raises hp f hf
  rw [State.cycle_judgePins, hunit, State.flag_judgePins, State.flag_takeBoundary y l number hf, hsent, hcycle, Bool.or_assoc]
  rfl

end

/-! ### A success at the entry -/

section
variable {s r : State} {l : LineId} {a : Attempt} {i : Index} {e : Entry}

/-- R52: an answered ask. -/
theorem outcome_asked (ho : a.owner = .ask i) (stamp : Option (BitVec 4)) (e : Entry) :
    e.outcome a .success stamp = { entry := { e with askPending := false }, causes := [] } := by
  unfold Entry.outcome
  rw [ho]

theorem outcome_published (ho : a.owner = .publish i) (stamp : Option (BitVec 4)) (e : Entry) :
    e.outcome a .success stamp = e.publishSuccess a.frame stamp := by
  unfold Entry.outcome
  rw [ho]

/-- R74, R75, R82: the entry after a publish that carried a value. -/
def Entry.published (e : Entry) (v : Value) (stamp : Option (BitVec 4)) : Entry :=
  let x := { e with causes := { e.causes with published := true } }
  if e.kind = .output then
    if e.oneShot = true then { x with stamp := stamp, publishPending := false, state := .spent }
    else { x with stamp := stamp, publishPending := decide (e.value ≠ some v) }
  else { x with publishPending := decide (e.value ≠ some v) }

theorem publishSuccess_result {tag : Tag} {v : Value} (hk : e.kind ≠ .input) (hr : e.state ≠ .retiring)
    (stamp : Option (BitVec 4)) (y : Entry) (hy : y.state = e.state) :
    (e.publishSuccess (.data tag v) stamp).result y = e.published v stamp := by
  have hcarries : (!(Frame.data tag v).carries e.value) = decide (e.value ≠ some v) := by
    have hbeq : (Frame.data tag v).carries e.value = (e.value == some v) := rfl
    rw [hbeq, beq_value, decide_not]
  rw [Reaction.result_live _ _ (by rw [hy]; exact hr)]
  unfold Entry.publishSuccess Entry.published
  rw [hcarries]
  cases hkind : e.kind with
  | input => exact absurd hkind hk
  | output => cases ho : e.oneShot <;> simp [CauseSet.raise, CauseSet.insert]
  | bridge => simp [CauseSet.raise, CauseSet.insert]

/-- R158: a publish tells its host. -/
theorem publishSuccess_causes (hk : e.kind ≠ .input) (frame : Frame) (stamp : Option (BitVec 4)) :
    (e.publishSuccess frame stamp).causes = [.published] := by
  unfold Entry.publishSuccess
  cases hkind : e.kind with
  | input => exact absurd hkind hk
  | output => dsimp only; split <;> rfl
  | bridge => rfl

/-- R6, R136: a success reported for an entry that is not RETIRING is one event at that entry. -/
theorem reportToEntry_succeeds (he : r.entry i = some e) (hf : e.inFlight.get l = true) (hr : e.state ≠ .retiring) :
    r.reportToEntry l i a .success =
      r.react fun j y => if j = i then (y.landed l).outcome a .success (r.stampNow l) else y.unchanged := by
  unfold State.reportToEntry
  simp only [he, hf, if_true, if_neg hr]
  rfl

theorem reportToEntry_retires (he : r.entry i = some e) (hf : e.inFlight.get l = true) (hr : e.state = .retiring) :
    r.reportToEntry l i a .success =
      if e.inFlight.get l.other = true then r.setEntry i (e.landed l) else r.emptyEntry i := by
  unfold State.reportToEntry
  simp only [he, hf, if_true, if_pos hr, Entry.grounded_landed]
  cases e.inFlight.get l.other <;> rfl

/-- R158: a publish hands its entry to the queue. -/
theorem queue_publishes (he : r.entry i = some e) (hf : e.inFlight.get l = true) (hr : e.state ≠ .retiring)
    (hk : e.kind ≠ .input) (ho : a.owner = .publish i) :
    Appends r (r.reportToEntry l i a .success) fun j => decide (j = i) && e.notify := by
  unfold Appends
  rw [reportToEntry_succeeds he hf hr, State.queue_react, State.newlyQueued_eq]
  intro j
  by_cases hj : j = i
  · subst hj
    have hcauses := publishSuccess_causes (e := e.landed l) hk a.frame (r.stampNow l)
    rw [he]
    simp [outcome_published ho, Reaction.notifies, hcauses, hr]
  · cases hjentry : r.entry j <;> simp [hj]

/-- Settles O36, by what the success is to the entry that owns the frame. -/
theorem successAtEntry : Obligations.SuccessAtEntry := by
  intro l s a i e ha he hf
  have hp := participates_of_attempt ha
  have hview := sent_view s l
  have hentry : (s.sent l).entry i = some e := (hview.entry i).trans he
  have hstamp : (s.sent l).stampNow l = s.stampNow l := hview.stampNow
  refine ⟨_, exec_transmitSuccess ha, fun j hj ho => ?others, fun ho hr => ?asked, fun tag v ho hframe hr => ?published,
    fun ho hr => ?retired, fun ho hr => ?askQueue, fun ho hk hr => ?publishQueue, fun ho hr hlast => ?retiredQueue,
    fun ho => ?line⟩
  case others =>
    rw [transmitSucceeds_eq, report_owner _ ho]
    exact ((s.sent l).entry_reportToEntry_ne l i j a .success hj).trans (hview.entry j)
  case asked =>
    rw [transmitSucceeds_eq, report_owner _ (.inr ho)]
    refine ((s.sent l).entry_reportToEntry l i e a .success hentry hf hr).trans (congrArg some ?_)
    rw [outcome_asked ho, Reaction.result_quiet]
    rfl
  case published =>
    have hresult : e.kind ≠ .input → (s.transmitSucceeds l a).entry i =
        some ((e.landed l).published v (s.stampNow l)) := fun hk => by
      rw [transmitSucceeds_eq, report_owner _ (.inl ho)]
      refine ((s.sent l).entry_reportToEntry l i e a .success hentry hf hr).trans (congrArg some ?_)
      rw [outcome_published ho, hframe, hstamp]
      exact publishSuccess_result (e := e.landed l) hk hr _ e rfl
    refine ⟨fun hk hshot => ?_, fun hk hshot => ?_, fun hk => ?_⟩
    · refine (hresult (by simp [hk])).trans (congrArg some ?_)
      simp [Entry.published, Entry.landed, hk, hshot, State.stampNow]
    · refine (hresult (by simp [hk])).trans (congrArg some ?_)
      simp [Entry.published, Entry.landed, hk, hshot, State.stampNow]
    · refine (hresult (by simp [hk])).trans (congrArg some ?_)
      simp [Entry.published, Entry.landed, hk]
  case retired =>
    rw [transmitSucceeds_eq, report_owner _ ho, reportToEntry_retires hentry hf hr]
    cases e.inFlight.get l.other with
    | true => exact (State.entry_setEntry _ i i _).trans (if_pos rfl)
    | false => exact (State.entry_emptyEntry _ i i).trans (if_pos rfl)
  case askQueue =>
    rw [transmitSucceeds_eq, report_owner _ (.inr ho), reportToEntry_succeeds hentry hf hr]
    refine (State.queue_react_quiet fun j y _ => ?_).trans hview.queue
    split
    · rw [outcome_asked ho]
    · rfl
  case publishQueue =>
    have hqueue := queue_publishes hentry hf hr hk ho
    unfold Appends at hqueue ⊢
    rw [hview.queue] at hqueue
    rw [transmitSucceeds_eq, report_owner _ (.inl ho)]
    exact hqueue
  case retiredQueue =>
    rw [transmitSucceeds_eq, report_owner _ ho, reportToEntry_retires hentry hf hr, hlast, if_neg Bool.false_ne_true]
    exact congrArg (List.filter _) hview.queue
  case line =>
    have hreport : ∃ j, (s.sent l).report l a .success = (s.sent l).reportToEntry l j a .success := by
      cases howner : a.owner with
      | beacon => exact absurd howner ho
      | publish j => exact ⟨j, report_owner _ (.inl howner)⟩
      | ask j => exact ⟨j, report_owner _ (.inr howner)⟩
    obtain ⟨j, hj⟩ := hreport
    rw [transmitSucceeds_eq, hj]
    refine ⟨(State.cycle_reportToEntry (s.sent l) l j a .success).trans hview.cycle, fun f hqr => ?_⟩
    exact (State.flag_of_flags (State.flags_reportToEntry (s.sent l) l j a .success) hqr).trans (sent_raises hp f hqr)

end

end Sys2Proof.Machine

/-! PROOFS. Attempts that lose the line, and errors as receiver and as sender, up to the entry into OFF (R103, R104, R112
to R114, R123 to R128, R136, R137, R142). -/

namespace Sys2Proof.Machine

open Sys2Proof.Safety

/-! ### Losses -/

section
variable {s : State} {l : LineId} {a : Attempt}

/-- An outcome other than a success raises no flag. -/
theorem flags_report_ended (s : State) (l : LineId) (a : Attempt) {x : Ending} (hx : x ≠ .success) :
    (s.report l a x).flags = s.flags := by
  unfold State.report
  split
  · unfold State.reportToCycleUnit
    cases x with
    | success => exact absurd rfl hx
    | _ => rfl
  · simp
  · simp

/-- R103, R104, R136: an attempt that ends in a loss, with the engine's next phase. -/
def State.loses (s : State) (l : LineId) (a : Attempt) (x : Phase) : State :=
  (((s.withEngine l x).emptyBuffer l).report l a .loss).judgePins

/-- R103, R104, R136: what a loss leaves. -/
structure Lost (s t : State) (l : LineId) (x : Phase) : Prop where
  line : t.line.get l = { s.line.get l with attempt := none }
  engine : t.engine.get l = x
  other : SameLine s t l.other
  cycle : t.cycle = s.cycle
  flags : t.flags = s.flags
  settings : SameSettings s t
  outside : SameOutside s t
  ended : AttemptEnded s t l

theorem loses_lost (ha : s.sendingAttempt l = some a) (x : Phase) : Lost s (s.loses l a x) l x where
  line := by
    unfold State.loses
    rw [State.line_judgePins, State.line_report, State.line_emptyBuffer]
    rfl
  engine := by simp [State.loses, State.emptyBuffer]
  other := ⟨by simp [State.loses, State.emptyBuffer], by simp [State.loses, State.emptyBuffer],
    by simp [State.loses, State.emptyBuffer]⟩
  cycle := State.cycle_report_ended _ l a (by simp)
  flags := flags_report_ended _ l a (by simp)
  settings := ⟨by simp [State.loses, State.emptyBuffer], by simp [State.loses, State.emptyBuffer],
    by simp [State.loses, State.emptyBuffer]⟩
  outside := ⟨by simp [State.loses, State.emptyBuffer], by simp [State.loses, State.emptyBuffer],
    by simp [State.loses, State.emptyBuffer]⟩
  ended := (report_ends (r := (s.withEngine l x).emptyBuffer l) (buffered_of_attempt ha) (by simp) rfl rfl).congr rfl rfl

/-- Settles O38: both commands are one loss. -/
theorem lossesKeepPending : Obligations.LossesKeepPending := by
  intro c l s a ha hc
  have hloses : ∃ x, exec c s = .next (s.loses l a x) ∧ (∃ bits, x = .receiving bits) ∧
      (c = .startCollision l → x = .receiving (some [])) := by
    obtain rfl | ⟨rfl, k, hk⟩ := hc
    · exact ⟨_, exec_arbitrationLoss ha, Phase.lose_receiving _, fun h => by cases h⟩
    · exact ⟨_, exec_startCollision ha hk, ⟨_, rfl⟩, fun _ => rfl⟩
  obtain ⟨x, hexec, hbits, hcollision⟩ := hloses
  have h := loses_lost ha x
  refine ⟨_, hexec, h.line, ?_, fun hc => h.engine.trans (hcollision hc), h.other, h.cycle, h.flags, h.settings, h.outside,
    h.ended.entry, h.ended.vacant, h.ended.moves⟩
  rw [h.engine]
  exact hbits

end

/-! ### Counts after a noted error -/

section
variable {s r : State} {l : LineId}

theorem countFlags_congr (hs : (r.line.get l).state = (s.line.get l).state)
    (ht : (r.line.get l).transmitCount = (s.line.get l).transmitCount)
    (hr : (r.line.get l).receiveCount = (s.line.get l).receiveCount) (ha : r.applied = s.applied) (m n : Nat)
    (f : EventFlag) : countFlags r l m n f = countFlags s l m n f := by
  unfold countFlags
  rw [hs, ht, hr, ha]

/-- R126, R127: LINE_ERROR, and what a change of the counts after it raises. -/
theorem flag_noted_withCounts (x : Phase) (kind : ErrorKind) (m n : Nat) (f : EventFlag) (h : s.participates l = true) :
    ((((s.withEngine l x).noteError l kind).withCounts l m n).flag f) =
      (s.flag f || (f == .ofLine l .lineError || countFlags s l m n f)) := by
  have hp : ((s.withEngine l x).noteError l kind).participates l = true :=
    (participates_noteError (s.withEngine l x) l kind l).trans h
  have hnoted : ((s.withEngine l x).noteError l kind).flag f = (s.flag f || f == .ofLine l .lineError) := by
    unfold State.noteError
    rw [State.flag_raise _ _ _ (by simp)]
    simp
  have hcounts : countFlags ((s.withEngine l x).noteError l kind) l m n f = countFlags s l m n f :=
    countFlags_congr (s := s) (r := (s.withEngine l x).noteError l kind) (by simp) (by simp) (by simp) rfl m n f
  rw [State.flag_withCounts _ l m n f hp, hnoted, hcounts, Bool.or_assoc]

/-- Settles O39. -/
theorem receiveErrorCounts : Obligations.ReceiveErrorCounts := by
  intro l kind s
  refine ⟨fun hr hkind => ?_, fun hno => ?_⟩
  · have hp := participates_of_canReceive hr
    have hreceiver : kind.ofReceiver = true := by obtain rfl | rfl | rfl := hkind <;> rfl
    refine ⟨_, exec_receiveError kind hr hreceiver, State.line_receiveErrorOn s l kind hp,
      State.engine_receiveErrorOn s l kind, fun f _ => ?_, ?_, ?_, ?_, ?_, ?_, ?_⟩
    · exact flag_noted_withCounts _ kind _ _ f hp
    · exact ⟨by simp [State.receiveErrorOn], by simp [State.receiveErrorOn], by simp [State.receiveErrorOn]⟩
    · simp [State.receiveErrorOn]
    · exact ⟨by simp [State.receiveErrorOn], by simp [State.receiveErrorOn]⟩
    · exact ⟨by simp [State.receiveErrorOn], by simp [State.receiveErrorOn], by simp [State.receiveErrorOn]⟩
    · exact ⟨by simp [State.receiveErrorOn], by simp [State.receiveErrorOn], by simp [State.receiveErrorOn]⟩
    · exact pinsJudged_judgePins (by simp [State.receiveErrorOn])
  · have hfalse : (s.canReceive l && kind.ofReceiver) = false := by
      obtain hr | rfl | rfl := hno
      · rw [hr]; rfl
      · exact Bool.and_false _
      · exact Bool.and_false _
    show Host.Outcome.next (if s.canReceive l && kind.ofReceiver then _ else _) = _
    rw [hfalse, if_neg Bool.false_ne_true]

end

/-! ### Errors as sender -/

section
variable {s : State} {l : LineId} {a : Attempt} {kind : ErrorKind}

/-- Settles O40: the count, and the end of the attempt. -/
theorem transmitErrorCounts : Obligations.TransmitErrorCounts := by
  intro l kind s a cost ha hkind hcost hlow
  have hp := participates_of_attempt ha
  have hsender : senderCost (s.line.get l).state kind = cost := hcost.symm
  have hkeeps : ¬ (s.line.get l).failsOff kind := by
    rintro ⟨_, hoff⟩
    rw [hsender] at hoff
    exact absurd hlow (not_lt.mpr hoff)
  refine ⟨_, exec_transmitError ha hkind, ?_⟩
  rw [← hsender]
  have hevent := State.transmitErrorOn_counts s l kind a hkeeps
  refine ⟨State.line_transmitErrorOn_counts s l kind a hp hkeeps, State.engine_transmitErrorOn s l kind a, fun f hf => ?flags,
    ?other, ?cycle, ?settings, ?outside, ?pins, ?_⟩
  case flags =>
    have hflags : (s.transmitErrorOn l kind a).flags =
        ((s.errorNoted l kind).withCounts l ((s.line.get l).transmitCount + senderCost (s.line.get l).state kind)
          (s.line.get l).receiveCount).flags := by
      rw [hevent]
      exact flags_report_ended _ l a (by simp)
    exact (State.flag_of_flags hflags hf).trans (flag_noted_withCounts _ kind _ _ f hp)
  case other => exact ⟨by simp, by simp, by simp⟩
  case cycle =>
    rw [State.cycle_judgePins, hevent, State.cycle_report_ended _ l a (by simp)]
    simp [State.errorNoted, State.emptyBuffer]
  case settings => exact ⟨by simp, by simp, by simp⟩
  case outside => exact ⟨by simp, by simp, by simp⟩
  case pins => exact pinsJudged_judgePins (by simp)
  have hended : AttemptEnded s (s.transmitErrorOn l kind a).judgePins l := by
    rw [hevent]
    exact (report_ends (buffered_of_attempt ha) (by simp) (by simp [State.errorNoted, State.emptyBuffer])
      (by simp [State.errorNoted, State.emptyBuffer])).congr rfl rfl
  exact ⟨hended.entry, hended.vacant, hended.moves⟩

/-- R128, R142: the state in which the entry into OFF is reported to the cycle unit. -/
def State.failed (s : State) (l : LineId) (kind : ErrorKind) (a : Attempt) : State :=
  let x := ((s.errorNoted l kind).emptyBuffer l).report l a .abortOff
  x.withLine l { x.line.get l with state := .off, transmitCount := 0, receiveCount := 0, recovery := 0, rejoin := false }

theorem transmitErrorOn_failed (h : (s.line.get l).failsOff kind) :
    s.transmitErrorOn l kind a =
      (((s.failed l kind a).lineStateReport l (s.line.get l).state).raise (.ofLine l .lineState)).raise
        (.ofLine l .caution) := by
  have hstate : ((s.errorNoted l kind).line.get l).state = (s.line.get l).state := by simp [State.errorNoted]
  rw [State.transmitErrorOn_off s l kind a h]
  unfold State.enterOff
  rw [hstate]
  rfl

theorem failed_ended (ha : s.sendingAttempt l = some a) (kind : ErrorKind) : AttemptEnded s (s.failed l kind a) l :=
  (report_ends (buffered_of_attempt ha) (by simp) (by simp [State.errorNoted, State.emptyBuffer])
    (by simp [State.errorNoted, State.emptyBuffer])).congr rfl rfl

theorem cycle_failed (s : State) (l : LineId) (kind : ErrorKind) (a : Attempt) : (s.failed l kind a).cycle = s.cycle := by
  unfold State.failed
  dsimp only
  rw [State.cycle_withLine, State.cycle_report_ended _ l a (by simp)]
  simp [State.errorNoted, State.emptyBuffer]

theorem applied_failed (s : State) (l : LineId) (kind : ErrorKind) (a : Attempt) :
    (s.failed l kind a).applied = s.applied := by
  simp [State.failed, State.errorNoted, State.emptyBuffer]

theorem participates_failed (s : State) (l : LineId) (kind : ErrorKind) (a : Attempt) :
    (s.failed l kind a).participates l = false := by
  simp [State.failed, State.participates, LineState.participates]

/-- Settles O41: the entry into OFF is the end of the attempt and then a loss of usability. -/
theorem transmitErrorEntersOff : Obligations.TransmitErrorEntersOff := by
  intro l kind s a ha hkind hguarded hhigh
  have hp := participates_of_attempt ha
  have hold : (s.line.get l).state.participates = true := hp
  have hcheck : kind ≠ .check := by obtain rfl | rfl | rfl := hkind <;> simp
  have hcost : senderCost (s.line.get l).state kind = 6 := by obtain rfl | rfl | rfl := hkind <;> rfl
  have hoff : (s.line.get l).failsOff kind := by
    unfold LineCtl.failsOff
    rw [hcost]
    exact ⟨by decide, hhigh⟩
  have hmode : (s.failed l kind a).mode l = s.mode l := by
    unfold State.mode
    rw [applied_failed]
  have hevent := transmitErrorOn_failed (a := a) hoff
  refine ⟨_, exec_transmitError ha hcheck, State.line_transmitErrorOn_off s l kind a hoff,
    (State.engine_transmitErrorOn s l kind a).trans ?engine, ?unit, fun f hf => ?flags, ?other, ?settings, ?outside, ?pins, ?_⟩
  case engine =>
    rw [hguarded]
    rfl
  case unit =>
    rw [State.cycle_judgePins, hevent, State.cycle_raise, State.cycle_raise, State.cycle_lineStateReport]
    unfold State.reportedUnit State.unitLeaves
    rw [hold, participates_failed, cycle_failed, hmode, applied_failed]
  case flags =>
    have hfailed : (s.failed l kind a).flags = (s.errorNoted l kind).flags :=
      flags_report_ended _ l a (by simp)
    have hnoted : (s.failed l kind a).flag f = (s.flag f || f == .ofLine l .lineError) := by
      rw [State.flag_of_flags hfailed hf]
      unfold State.errorNoted State.noteError
      rw [State.flag_raise _ _ _ (by simp)]
      simp
    have hreport : ((s.failed l kind a).lineStateReport l (s.line.get l).state).flag f = (s.failed l kind a).flag f :=
      State.flag_of_flags (by simp) hf
    rw [State.flag_judgePins, hevent, State.flag_raise _ _ _ (by simp), State.flag_raise _ _ _ (by simp), hreport, hnoted]
    simp only [Bool.or_assoc]
  case other => exact ⟨by simp, by simp, by simp⟩
  case settings => exact ⟨by simp, by simp, by simp⟩
  case outside => exact ⟨by simp, by simp, by simp⟩
  case pins => exact pinsJudged_judgePins (by simp)
  have hloss : Reshapes (s.failed l kind a) (s.transmitErrorOn l kind a).judgePins (afterLoss s l)
      fun i e => e.notify && decide (LosesUse s l i e) := by
    rw [hevent]
    refine (lineStateReport_leaves hold (participates_failed s l kind a) ?_ fun i => ?_).congr rfl rfl rfl rfl
    · rw [cycle_failed, hmode]
      rfl
    · exact State.home_of_bankMap (by rw [applied_failed]) i
  exact (failed_ended ha kind).thenLoss hloss

end

end Sys2Proof.Machine

/-! PROOFS. Idle sequences: the completed join, the recovery from OFF, and the sequences that move only the engine (R101,
R120, R129, R130, R142, R45). -/

namespace Sys2Proof.Machine

open Sys2Proof.Safety

section
variable {s t r : State} {l : LineId} {old : LineState}

theorem exec_idleSequence (h : (s.engine.get l).countsIdle = true) :
    exec (.idleSequence l) s = .next (s.idleSequenceOn l).judgePins := by
  show Host.Outcome.next (if (s.engine.get l).countsIdle then _ else _) = _
  rw [if_pos h]

theorem exec_idleSequence_none (h : (s.engine.get l).countsIdle = false) : exec (.idleSequence l) s = .next s := by
  show Host.Outcome.next (if (s.engine.get l).countsIdle then _ else _) = _
  rw [h, if_neg Bool.false_ne_true]

theorem idleSequenceOn_participates (h : s.participates l = true) : s.idleSequenceOn l = s.withEngine l (.idle 0) := by
  unfold State.idleSequenceOn
  obtain hs | hs := (participates_iff s l).mp h <;> rw [hs]

theorem idleSequenceOn_joining (h : (s.line.get l).state = .joining) : s.idleSequenceOn l = s.completeJoin l := by
  unfold State.idleSequenceOn
  rw [h]

theorem idleSequenceOn_off (h : (s.line.get l).state = .off) : s.idleSequenceOn l = s.recoveryStep l := by
  unfold State.idleSequenceOn
  rw [h]

/-- Settles O44. -/
theorem idleSequenceElsewhere : Obligations.IdleSequenceElsewhere := by
  intro l s
  refine ⟨fun hp hcounts => ⟨_, exec_idleSequence hcounts, ?_⟩, exec_idleSequence_none⟩
  rw [idleSequenceOn_participates hp]
  exact ⟨rfl, pinsJudged_judgePins rfl⟩

/-! ### A line that starts taking part -/

/-- An event that leaves every entry as it is, and tells nobody. -/
theorem Reshapes.sameDirectory {after : Index → Entry → Entry} {new : Index → Entry → Bool} (h : Reshapes s t after new)
    (hq : ∀ i e, s.entry i = some e → after i e = e ∧ new i e = false) : SameDirectory s t := by
  have hsame : Reshapes s t (fun _ e => e) fun _ _ => false := h.weaken hq
  refine ⟨Directory.ext_get fun i => ?_, ?_⟩
  · show t.entry i = s.entry i
    cases he : s.entry i with
    | none => exact hsame.vacant i he
    | some e => exact hsame.entry i e he
  · have hqueue := hsame.queue
    unfold Appends at hqueue
    simpa [State.noted_false] using hqueue

/-- R142: what a line that starts taking part makes of its unit and of the directory. -/
structure Joined (s t : State) (l : LineId) : Prop where
  unit : t.cycle.get l =
    if s.mode l = .beaconed ∧ (s.cycle.get l).acting = .source then
      { s.cycle.get l with fresh := true, periodTimer := .running ((s.applied.line.get l).cyclePeriod * 16000) }
    else s.cycle.get l
  thaws : s.mode l = .free → LineThaws s t l
  kept : ∀ i e, s.entry i = some e → s.home i ≠ l ∨ e.kind = .output ∨ e.state ≠ .frozen → t.entry i = some e
  vacant : ∀ i, s.entry i = none → t.entry i = none
  unsynced : s.mode l = .beaconed → (s.cycle.get l).sync = .unsynced → SameDirectory s t

/-- R142: the report of a line that starts taking part. -/
theorem lineStateReport_joined (hview : SameView s r) (hold : old.participates = false)
    (hnew : r.participates l = true) (hte : t.entries = (r.lineStateReport l old).entries)
    (htq : t.queue = (r.lineStateReport l old).queue) (htc : t.cycle = (r.lineStateReport l old).cycle) :
    Joined s t l := by
  have hmode : r.mode l = s.mode l := by
    unfold State.mode
    rw [hview.applied]
  have hunit : (r.lineStateReport l old).cycle.get l = r.unitJoins l := by
    rw [State.cycle_lineStateReport]
    unfold State.reportedUnit
    rw [hold, hnew]
  have hsync : ((r.lineStateReport l old).cycle.get l).sync = (s.cycle.get l).sync := by
    rw [hunit]
    unfold State.unitJoins
    rw [hview.cycle]
    dsimp only
    split <;> rfl
  have husable : (r.lineStateReport l old).usable l = (s.mode l == .free || (s.cycle.get l).sync == .synced) := by
    have hafter : (r.lineStateReport l old).mode l = s.mode l := by
      rw [← hmode]
      simp [State.mode]
    unfold State.usable usableIn
    rw [hafter, hsync, State.line_lineStateReport, show (r.line.get l).state.participates = true from hnew,
      Bool.true_and]
  have hreport := (lineStateReport_joins hold hnew).congr (s := s) (t := t) hview.entries.symm hview.queue.symm hte htq
  refine ⟨?unit, fun hfree => ?thaws, fun i e he hkept => ?kept, hreport.vacant, fun hbeaconed hunsynced => ?unsynced⟩
  case unit =>
    rw [htc, hunit]
    unfold State.unitJoins State.periodInterval
    rw [hmode, hview.cycle, hview.applied]
  case thaws =>
    have hu : (r.lineStateReport l old).usable l = true := by rw [husable, hfree]; rfl
    have hthaw := hreport.weaken (after' := fun i e =>
        if s.home i = l ∧ e.kind ≠ .output ∧ e.state = .frozen then thawedEntry e else e)
      (new' := fun i e => e.notify && decide (s.home i = l ∧ e.kind ≠ .output ∧ e.state = .frozen)) fun i e _ => by
        have hiff : ((r.lineStateReport l old).usable l = true ∧ r.home i = l ∧ e.kind ≠ .output ∧ e.state = .frozen) ↔
            (s.home i = l ∧ e.kind ≠ .output ∧ e.state = .frozen) := by
          rw [hu, hview.home, eq_self_iff_true, true_and]
        exact ⟨if_congr hiff rfl rfl, congrArg _ (decide_eq_decide.mpr hiff)⟩
    refine ⟨hthaw.entry, hthaw.vacant, appends_congr hthaw.queue fun i => ?_⟩
    cases he : s.entry i with
    | none => rw [State.noted_none he]
    | some e => rw [State.noted_some he]
  case kept =>
    rw [hreport.entry i e he, if_neg]
    rintro ⟨_, hhome, hk, hs⟩
    rw [hview.home] at hhome
    obtain h | h | h := hkept
    · exact h hhome
    · exact hk h
    · exact h hs
  case unsynced =>
    have hu : (r.lineStateReport l old).usable l = false := by rw [husable, hbeaconed, hunsynced]; rfl
    refine hreport.sameDirectory fun i e _ => ?_
    simp [hu]

/-- Settles O42. -/
theorem joinCompletes : Obligations.JoinCompletes := by
  intro l s k hjoining hengine
  have hcounts : (s.engine.get l).countsIdle = true := by rw [hengine]; rfl
  refine ⟨_, exec_idleSequence hcounts, ?_⟩
  rw [idleSequenceOn_joining hjoining]
  have hjoined : Joined s (s.completeJoin l).judgePins l := by
    refine lineStateReport_joined (r := ((s.withLine l { s.line.get l with state := (s.line.get l).joined }).withEngine l
      (.idle 0)).raise (.ofLine l .lineState)) ⟨rfl, rfl, rfl, rfl⟩ (old := .joining) rfl ?_ rfl rfl rfl
    obtain h | h := (s.line.get l).joined_participates <;> simp [State.participates, h, LineState.participates]
  refine ⟨line_completeJoin s l, State.engine_completeJoin s l, fun f hf => ?_, hjoined.unit, ⟨by simp, by simp, by simp⟩,
    ⟨by simp, by simp, by simp⟩, ⟨by simp, by simp, by simp⟩, pinsJudged_judgePins (by simp), hjoined.thaws, hjoined.kept,
    hjoined.vacant, hjoined.unsynced⟩
  have hreport : ∀ y : State, (y.lineStateReport l .joining).flag f = y.flag f := fun y =>
    State.flag_of_flags (by simp) hf
  rw [State.flag_judgePins]
  unfold State.completeJoin
  rw [hreport, State.flag_raise _ _ _ (by simp)]
  rfl

end

/-! ### Notices -/

section
variable {s : State} {l : LineId} {p : ApplySet}

theorem State.lineFlags_tryBanks (s : State) : s.tryBanks.flags.line = s.flags.line := by
  cases h : s.applySet with
  | none => rw [State.tryBanks_none h]
  | some p =>
    rw [State.tryBanks_some h]
    cases s.banksFail p <;> cases s.banksGo p <;> rfl

theorem State.lineFlags_finishSet (s : State) : s.finishSet.flags.line = s.flags.line := by
  cases h : s.applySet with
  | none => rw [State.finishSet_none h]
  | some p =>
    rw [State.finishSet_some s p h]
    split <;> rfl

/-- R185, R188: a notice raises flags of the settings unit only. -/
theorem State.lineFlags_notice (s : State) (l : LineId) : (s.notice l).flags.line = s.flags.line := by
  unfold State.notice
  rw [State.lineFlags_finishSet, State.lineFlags_tryBanks, State.flags_tryLine]

theorem State.flag_notice_ofLine (s : State) (l m : LineId) (f : LineFlag) :
    (s.notice l).flag (.ofLine m f) = s.flag (.ofLine m f) := by
  unfold State.flag
  simp only [State.lineFlags_notice]

/-- R186: a notice puts a waiting portion of a DETACHED line into force. -/
theorem line_applied_notice (h : s.applySet = some p) (hd : s.isDetached l = true) :
    (s.notice l).applied.line.get l =
      if p.lineWaiting.get l = true then p.values.line.get l else s.applied.line.get l := by
  have hbanks : (s.notice l).applied.line = (s.tryLine l).applied.line := by
    unfold State.notice
    rw [State.applied_finishSet, State.applied_tryBanks (State.applySet_tryLine l h)]
    split <;> rfl
  rw [hbanks, State.applied_tryLine l h, hd, Bool.and_true]
  split
  · rw [Settings.line_putLine, PerLine.get_set_self]
  · rfl

theorem line_applied_notice_other (h : s.applySet = some p) :
    (s.notice l).applied.line.get l.other = s.applied.line.get l.other := by
  unfold State.notice
  rw [State.applied_finishSet, State.applied_tryBanks (State.applySet_tryLine l h), State.applied_tryLine l h]
  split <;> split <;> simp

theorem routes_applied_notice (h : s.applySet = some p) : (s.notice l).applied.routes = s.applied.routes := by
  unfold State.notice
  rw [State.applied_finishSet, State.applied_tryBanks (State.applySet_tryLine l h), State.applied_tryLine l h]
  split <;> split <;> rfl

/-- R26: sampling moves no side of an entry. -/
theorem guardHolds_sampleWhere (m : BankMap) (s : State) (q : Index → Bool) :
    guardHolds m (s.sampleWhere q).entries = guardHolds m s.entries := by
  have hsides : ∀ i e, SameSides e (if q i && e.samples then e.sample .free else e) := fun i e => by
    split
    · exact (sample_identity e .free).toSameSides
    · exact .refl e
  refine guardHolds_map m s.entries _ (fun i e => ?_) fun i e => ?_
  · obtain ⟨hk, ht, hm, _⟩ := hsides i e
    unfold receivingSide
    rw [hk, ht, hm]
  · obtain ⟨hk, ht, _, ho⟩ := hsides i e
    unfold publishingSide
    rw [hk, ht, ho]

theorem guardHolds_applyLineItems (m : BankMap) (s : State) (l : LineId) (x : LineSettings) :
    guardHolds m (s.applyLineItems l x).entries = guardHolds m s.entries := by
  unfold State.applyLineItems
  dsimp only
  split
  · exact guardHolds_sampleWhere m _ _
  · rfl

theorem guardHolds_tryLine (m : BankMap) (s : State) (l : LineId) :
    guardHolds m (s.tryLine l).entries = guardHolds m s.entries := by
  cases h : s.applySet with
  | none => rw [State.tryLine_none l h]
  | some p =>
    rw [State.tryLine_some l h]
    split
    · exact guardHolds_applyLineItems m s l _
    · rfl

theorem guardHolds_tryBanks (m : BankMap) (s : State) :
    guardHolds m s.tryBanks.entries = guardHolds m s.entries := by
  cases h : s.applySet with
  | none => rw [State.tryBanks_none h]
  | some p =>
    rw [State.tryBanks_some h, State.entries_raiseIf, State.entries_withApplySet]
    split
    · exact guardHolds_sampleWhere m _ _
    · rfl

theorem guardHolds_notice (m : BankMap) (s : State) (l : LineId) :
    guardHolds m (s.notice l).entries = guardHolds m s.entries := by
  unfold State.notice
  rw [State.entries_finishSet, guardHolds_tryBanks, guardHolds_tryLine]

/-- R188: a notice moves the banks of a waiting map when both lines are DETACHED and the guard stands. -/
theorem bankMap_applied_notice (h : s.applySet = some p) :
    (s.notice l).applied.bankMap =
      if p.bankWaiting = true ∧ bothDetached s = true ∧ guardHolds p.values.bankMap s.entries = true then
        p.values.bankMap
      else s.applied.bankMap := by
  have hset := State.applySet_tryLine l h
  have hmap : (s.tryLine l).applied.bankMap = s.applied.bankMap := by
    rw [State.applied_tryLine l h]
    split <;> rfl
  have hboth : bothDetached (s.tryLine l) = bothDetached s := by
    unfold bothDetached State.isDetached
    rw [State.line_tryLine]
  unfold State.notice
  rw [State.applied_finishSet, State.applied_tryBanks hset]
  unfold State.banksGo
  dsimp only
  rw [hmap, hboth, guardHolds_tryLine]
  by_cases hsame : p.values.bankMap = s.applied.bankMap
  · simp [hsame, hmap]
  · simp [apply_ite Settings.bankMap, hsame, hmap, and_assoc]

end

/-! ### The recovery from OFF -/

section
variable {s : State} {l : LineId}

/-- R130: the state in which the end of a recovery is reported, with the line's new state and its engine's phase. -/
def State.recovered (s : State) (l : LineId) (x : LineState) (y : Phase) : State :=
  ((s.withLine l { s.line.get l with state := x, transmitCount := 0, receiveCount := 0, recovery := 0
                                     rejoin := false }).withEngine l y).raise (.ofLine l .lineState)

theorem endRecovery_rejoins (h : s.rejoins l = true) :
    s.endRecovery l = (s.recovered l .active (.idle 0)).lineStateReport l .off := if_pos h

theorem endRecovery_detaches (h : s.rejoins l = false) :
    s.endRecovery l = ((s.recovered l .detached .stopped).lineStateReport l .off).notice l :=
  if_neg (Bool.eq_false_iff.mp h)

/-- R140: a line that ends its recovery in DETACHED reaches no entry. -/
theorem recovered_apart (s : State) (l : LineId) (y : Phase) :
    (s.recovered l .detached y).lineStateReport l .off =
      (s.recovered l .detached y).withCycle l ((s.recovered l .detached y).unitRoleReset l) := by
  have hstate : ((s.recovered l .detached y).line.get l).state = .detached := by simp [State.recovered]
  unfold State.lineStateReport State.participates
  rw [hstate]
  rfl

theorem flag_endRecovery (s : State) (l : LineId) : (s.endRecovery l).flag (.ofLine l .lineState) = true := by
  have hraised : ∀ x y, (s.recovered l x y).flag (.ofLine l .lineState) = true := fun x y => by
    unfold State.recovered
    rw [State.flag_raise _ _ _ (by simp)]
    simp
  have hreport : ∀ y : State, (y.lineStateReport l .off).flag (.ofLine l .lineState) = y.flag (.ofLine l .lineState) :=
    fun y => State.flag_of_flags (by simp) (by simp)
  cases h : s.rejoins l with
  | true => rw [endRecovery_rejoins h, hreport, hraised]
  | false => rw [endRecovery_detaches h, State.flag_notice_ofLine, hreport, hraised]

/-- Settles O43: the count, and the two ends of a recovery. -/
theorem recoveryRuns : Obligations.RecoveryRuns := by
  have hexec : ∀ (l : LineId) (s : State) (k : Nat), (s.line.get l).state = .off → s.engine.get l = .recovering k →
      exec (.idleSequence l) s = .next (s.recoveryStep l).judgePins := fun l s k hoff hengine => by
    rw [exec_idleSequence (by rw [hengine]; rfl), idleSequenceOn_off hoff]
  refine ⟨fun l s k hoff hengine hlow => ⟨_, hexec l s k hoff hengine, ?_⟩, fun l s k hoff hengine hlast =>
    ⟨_, hexec l s k hoff hengine, ?_⟩⟩
  · rw [s.line_recoveryStep_counts l hlow]
    exact ⟨PerLine.get_set_self _ _ _, PerLine.get_set_self _ _ _, ⟨by simp, by simp, rfl⟩, rfl, ⟨rfl, rfl⟩, rfl,
      ⟨rfl, rfl, rfl⟩, rfl, rfl, rfl⟩
  · have hend : s.recoveryStep l = s.endRecovery l := s.recoveryStep_ends l (by rw [hlast])
    rw [hend]
    refine ⟨s.line_endRecovery l, s.engine_endRecovery l, flag_endRecovery s l, ⟨by simp, by simp, by simp⟩, by simp,
      ⟨by simp, by simp, by simp⟩, pinsJudged_judgePins (by simp), fun h => ?rejoins, fun h hset => ?detaches,
      fun h p hset hwaits => ?applies⟩
    case rejoins =>
      have hrejoins : s.rejoins l = true := h
      have hactive : (s.recovered l .active (.idle 0)).participates l = true := by
        simp [State.recovered, State.participates, LineState.participates]
      rw [endRecovery_rejoins hrejoins]
      have hjoined : Joined s ((s.recovered l .active (.idle 0)).lineStateReport l .off).judgePins l :=
        lineStateReport_joined (r := s.recovered l .active (.idle 0)) ⟨rfl, rfl, rfl, rfl⟩ rfl hactive rfl rfl rfl
      refine ⟨⟨by simp [State.recovered], by simp [State.recovered], by simp [State.recovered]⟩, fun f hf => ?_, hjoined.unit,
        hjoined.thaws, hjoined.unsynced⟩
      have hreport : ((s.recovered l .active (.idle 0)).lineStateReport l .off).flag f =
          (s.recovered l .active (.idle 0)).flag f := State.flag_of_flags (by simp) hf
      rw [State.flag_judgePins, hreport]
      unfold State.recovered
      rw [State.flag_raise _ _ _ (by simp)]
      rfl
    case detaches =>
      have hdetaches : s.rejoins l = false := h
      have hnone : ∀ u, ((s.recovered l .detached .stopped).withCycle l u).applySet = none := fun _ => hset
      rw [endRecovery_detaches hdetaches, recovered_apart, State.notice_none _ l (hnone _)]
      exact ⟨⟨rfl, rfl, rfl⟩, rfl, rfl⟩
    case applies =>
      have hdetaches : s.rejoins l = false := h
      have hpending : ∀ u, ((s.recovered l .detached .stopped).withCycle l u).applySet = some p := fun _ => hset
      have hdetached : ∀ u, ((s.recovered l .detached .stopped).withCycle l u).isDetached l = true := fun u => by
        simp [State.recovered, State.isDetached]
      rw [endRecovery_detaches hdetaches, recovered_apart]
      exact (line_applied_notice (hpending _) (hdetached _)).trans (if_pos hwaits)

end

end Sys2Proof.Machine

/-! PROOFS. What the portions of a set sample (R27, R62, R91, R186, R187, R191), and DETACH (R115, R121, R137, R142, R186,
R190). -/

namespace Sys2Proof.Machine

open Sys2Proof.Safety

/-! ### Samplings on FREE lines -/

/-- R62: an entry after a sampling of the positions a predicate selects. -/
def sampledWhere (q : Index → Bool) (i : Index) (e : Entry) : Entry :=
  if q i && e.samples then e.sample .free else e

/-- Two directories, the second the first after a sampling. -/
def Sampled (s t : State) (q : Index → Bool) : Prop := ∀ i, t.entry i = (s.entry i).map (sampledWhere q i)

section
variable {s t r : State} {q p : Index → Bool} {i : Index} {e : Entry}

theorem Entry.samples_iff (e : Entry) : e.samples = true ↔ e.kind = .output ∧ e.state = .live ∧ e.held = false := by
  simp [Entry.samples, and_assoc]

theorem sampledWhere_no (h : q i = false) : sampledWhere q i e = e := by
  unfold sampledWhere
  rw [h]
  rfl

theorem sampledWhere_congr (h : q i = p i) : sampledWhere q i e = sampledWhere p i e := by
  unfold sampledWhere
  rw [h]

/-- An entry with nothing to sample stays. -/
theorem sampledWhere_quiet (h : e.kind ≠ .output ∨ e.staged = none ∨ e.state ≠ .live ∨ e.held = true) :
    sampledWhere q i e = e := by
  unfold sampledWhere
  split
  next hq =>
    obtain ⟨hk, hs, hheld⟩ := e.samples_iff.mp (Bool.and_eq_true_iff.mp hq).2
    obtain h | h | h | h := h
    · exact absurd hk h
    · simp [Entry.sample, h]
    · exact absurd hs h
    · rw [hheld] at h
      cases h
  next => rfl

theorem sampledWhere_staged {v : Value} (hk : e.kind = .output) (hs : e.state = .live) (hheld : e.held = false)
    (hv : e.staged = some v) : sampledWhere q i e = if q i = true then sampledOnFree e v else e := by
  unfold sampledWhere
  rw [e.samples_iff.mpr ⟨hk, hs, hheld⟩, Bool.and_true, sample_free hv]

/-- A value is sampled once: the second of two samplings finds nothing staged. -/
theorem sampledWhere_sampledWhere :
    sampledWhere p i (sampledWhere q i e) = sampledWhere (fun j => q j || p j) i e := by
  cases hq : q i with
  | false =>
    rw [sampledWhere_no hq]
    exact sampledWhere_congr (by rw [hq, Bool.false_or])
  | true =>
    have hunion : sampledWhere (fun j => q j || p j) i e = sampledWhere q i e :=
      sampledWhere_congr (by rw [hq, Bool.true_or])
    rw [hunion]
    refine sampledWhere_quiet ?_
    unfold sampledWhere
    rw [hq, Bool.true_and]
    by_cases hs : e.samples = true
    · rw [if_pos hs]
      cases hv : e.staged with
      | none => exact .inr (.inl (by simp [Entry.sample, hv]))
      | some v => exact .inr (.inl (by simp [Entry.sample, hv]))
    · rw [if_neg hs]
      by_contra hsamples
      simp only [not_or, not_not, Bool.not_eq_true] at hsamples
      obtain ⟨hk, _, hlive, hheld⟩ := hsamples
      exact hs (e.samples_iff.mpr ⟨hk, hlive, hheld⟩)

theorem Sampled.none (h : t.entries = s.entries) : Sampled s t fun _ => false := fun i => by
  have hsame : t.entry i = s.entry i := congrArg (·.get i) h
  rw [hsame]
  cases s.entry i <;> rfl

theorem Sampled.trans (h : Sampled s r q) (g : Sampled r t p) : Sampled s t fun i => q i || p i := fun i => by
  rw [g i, h i, Option.map_map]
  exact congrArg (Option.map · _) (funext fun e => sampledWhere_sampledWhere)

theorem Sampled.congr (h : Sampled s t q) (hs : r.entries = s.entries) (hqp : ∀ i, q i = p i) : Sampled r t p :=
  fun i => by
    rw [← funext hqp, show r.entry i = s.entry i from congrArg (·.get i) hs]
    exact h i

theorem sampled_sampleWhere (s : State) (q : Index → Bool) : Sampled s (s.sampleWhere q) q := fun _ =>
  Directory.get_map _ _ _

end

/-! ### Portions -/

section
variable {s : State} {l : LineId} {p : ApplySet}

/-- R91, R187: a line's items sample its entries when they make the line FREE. -/
theorem sampled_applyLineItems (s : State) (l : LineId) (x : LineSettings) :
    Sampled s (s.applyLineItems l x)
      fun i => decide (s.mode l = .beaconed ∧ x.cycleMode = .free) && (s.home i == l) := by
  unfold State.applyLineItems
  dsimp only
  split
  next h =>
    have hhome : ∀ i, (State.withCycle (s.withApplied (s.applied.putLine l x)) l
        { s.cycle.get l with sync := idleSync x.cycleMode, acting := x.role }).home i = s.home i := fun i => rfl
    exact (sampled_sampleWhere _ _).congr rfl fun i => by rw [hhome, decide_eq_true h, Bool.true_and]
  next h => exact (Sampled.none rfl).congr rfl fun i => by rw [decide_eq_false h, Bool.false_and]

/-- What a line portion samples at an occasion. -/
def State.lineSamples (s : State) (p : ApplySet) (l : LineId) (i : Index) : Bool :=
  (p.lineWaiting.get l && s.isDetached l) &&
    (decide (s.mode l = .beaconed ∧ (p.values.line.get l).cycleMode = .free) && (s.home i == l))

theorem sampled_tryLine (h : s.applySet = some p) : Sampled s (s.tryLine l) (s.lineSamples p l) := by
  rw [State.tryLine_some l h]
  unfold State.lineSamples
  split
  next hgo => exact (sampled_applyLineItems s l _).congr rfl fun i => by rw [hgo, Bool.true_and]
  next hgo => exact (Sampled.none rfl).congr rfl fun i => by rw [Bool.eq_false_iff.mpr hgo, Bool.false_and]

/-- R27, R62, R191: what a bank-map portion samples at an occasion. -/
def State.bankSamples (s : State) (p : ApplySet) (i : Index) : Bool :=
  s.banksGo p && (s.home i != p.values.bankMap.home i && s.mode (p.values.bankMap.home i) == .free)

theorem sampled_tryBanks (h : s.applySet = some p) : Sampled s s.tryBanks (s.bankSamples p) := by
  have hentries : s.tryBanks.entries =
      (if s.banksGo p then s.moveBanks p.values.bankMap else s).entries := by
    rw [State.tryBanks_some h, State.entries_raiseIf, State.entries_withApplySet]
  have hmoved : Sampled s (if s.banksGo p then s.moveBanks p.values.bankMap else s) (s.bankSamples p) := by
    unfold State.bankSamples
    split
    next hgo =>
      have hmove : Sampled s (s.moveBanks p.values.bankMap) _ :=
        (sampled_sampleWhere (s.withApplied { s.applied with bankMap := p.values.bankMap }) _).congr rfl fun _ => rfl
      exact hmove.congr rfl fun i => by rw [hgo, Bool.true_and]; rfl
    next hgo => exact (Sampled.none rfl).congr rfl fun i => by rw [Bool.eq_false_iff.mpr hgo, Bool.false_and]
  intro i
  rw [← hmoved i]
  exact congrArg (·.get i) hentries

theorem sampled_notice (s : State) (l : LineId) : ∃ q, Sampled s (s.notice l) q := by
  cases h : s.applySet with
  | none => exact ⟨_, Sampled.none (congrArg State.entries (State.notice_none s l h))⟩
  | some p =>
    have hfinish : Sampled (s.tryLine l).tryBanks (s.notice l) fun _ => false :=
      .none (State.entries_finishSet (s.tryLine l).tryBanks)
    exact ⟨_, ((sampled_tryLine h).trans (sampled_tryBanks (State.applySet_tryLine l h))).trans hfinish⟩

end

end Sys2Proof.Machine

/-! PROOFS. DETACH (R115, R121, R137, R142, R186, R190). -/

namespace Sys2Proof.Machine

open Sys2Proof.Safety

/-! ### The unit of a line that takes no part -/

/-- R139, R142: the unit of a line that has stopped taking part. -/
structure UnitRests (s : State) (l : LineId) : Prop where
  sync : (s.cycle.get l).sync = idleSync (s.mode l)
  holdOff : (s.cycle.get l).holdOff = 0
  acting : (s.cycle.get l).acting = (s.applied.line.get l).role
  fresh : (s.cycle.get l).fresh = false
  due : (s.cycle.get l).due = false
  period : (s.cycle.get l).periodTimer = .stopped
  watch : (s.cycle.get l).watchTimer = .stopped

section
variable {s r : State} {l : LineId} {p : ApplySet} {old : LineState}

theorem UnitRests.congr (h : UnitRests s l) (hc : r.cycle.get l = s.cycle.get l)
    (ha : r.applied.line.get l = s.applied.line.get l) : UnitRests r l := by
  obtain ⟨hsync, hhold, hacting, hfresh, hdue, hperiod, hwatch⟩ := h
  unfold State.mode at hsync
  rw [← hc, ← ha] at hsync
  rw [← hc] at hhold hfresh hdue hperiod hwatch
  rw [← hc, ← ha] at hacting
  exact ⟨hsync, hhold, hacting, hfresh, hdue, hperiod, hwatch⟩

/-- R156, R187: a notice moves the unit of its line with a line portion. -/
theorem cycle_notice (h : s.applySet = some p) :
    (s.notice l).cycle.get l =
      if p.lineWaiting.get l && s.isDetached l then
        { s.cycle.get l with sync := idleSync (p.values.line.get l).cycleMode, acting := (p.values.line.get l).role }
      else s.cycle.get l := by
  unfold State.notice
  rw [State.cycle_finishSet, State.cycle_tryBanks, State.tryLine_some l h, State.cycle_withApplySet]
  split
  · exact State.cycle_applyLineItems s l _
  · rfl

theorem cycleNumber_notice (s : State) (l m : LineId) : ((s.notice l).cycle.get m).cycle = (s.cycle.get m).cycle := by
  obtain rfl | rfl := LineId.eq_or_other l m
  · cases h : s.applySet with
    | none => rw [State.notice_none s m h]
    | some p =>
      rw [cycle_notice h]
      split <;> rfl
  · rw [State.cycle_notice_other]

theorem UnitRests.notice (h : UnitRests s l) (hd : s.isDetached l = true) : UnitRests (s.notice l) l := by
  cases hset : s.applySet with
  | none => rwa [State.notice_none s l hset]
  | some p =>
    have hunit := cycle_notice (l := l) hset
    have hline := line_applied_notice hset hd
    rw [hd, Bool.and_true] at hunit
    cases hw : p.lineWaiting.get l with
    | false =>
      rw [hw, if_neg Bool.false_ne_true] at hunit hline
      exact h.congr hunit hline
    | true =>
      rw [hw, if_pos rfl] at hunit hline
      obtain ⟨_, hhold, _, hfresh, hdue, hperiod, hwatch⟩ := h
      constructor <;> rw [hunit]
      · unfold State.mode
        rw [hline]
      · exact hhold
      · rw [hline]
      · exact hfresh
      · exact hdue
      · exact hperiod
      · exact hwatch

theorem UnitRests.notice_other {m : LineId} (h : UnitRests s m) (hm : m = l.other) : UnitRests (s.notice l) m := by
  subst hm
  refine h.congr (State.cycle_notice_other s l) ?_
  cases hset : s.applySet with
  | none => rw [State.notice_none s l hset]
  | some p => exact line_applied_notice_other hset

/-- R142: the report of a line that stops taking part lays its unit to rest. -/
theorem lineStateReport_rests (hold : old.participates = true) (hnew : r.participates l = false) :
    UnitRests (r.lineStateReport l old) l := by
  have hunit : (r.lineStateReport l old).cycle.get l = r.unitLeaves l := by
    rw [State.cycle_lineStateReport]
    unfold State.reportedUnit
    rw [hold, hnew]
  constructor <;> rw [hunit]
  case sync =>
    unfold State.mode
    rw [State.applied_lineStateReport]
    rfl
  case acting =>
    rw [State.applied_lineStateReport]
    rfl
  all_goals rfl

theorem cycleNumber_lineStateReport (hnew : r.participates l = false) :
    ((r.lineStateReport l old).cycle.get l).cycle = (r.cycle.get l).cycle := by
  rw [State.cycle_lineStateReport]
  unfold State.reportedUnit
  rw [hnew]
  cases old.participates with
  | true => rfl
  | false =>
    dsimp only
    split <;> rfl

/-! ### The stop of a line -/

/-- R137, R190: the outcome report of a stop, which comes before the change of the line state. -/
def State.unloaded (s : State) (l : LineId) (x : Ending) : State :=
  match (s.line.get l).attempt with
  | some a => ((s.withEngine l .stopped).emptyBuffer l).report l a x
  | none => (s.withEngine l .stopped).emptyBuffer l

theorem stopLine_eq (s : State) (l : LineId) (x : Ending) :
    s.stopLine l x = (s.unloaded l x).withLine l
      { (s.unloaded l x).line.get l with state := .detached, recovery := 0, rejoin := false } := rfl

theorem unloaded_some {x : Ending} {a : Attempt} (ha : (s.line.get l).attempt = some a) :
    s.unloaded l x = ((s.withEngine l .stopped).emptyBuffer l).report l a x := by
  unfold State.unloaded
  rw [ha]

theorem unloaded_none {x : Ending} (ha : (s.line.get l).attempt = none) :
    s.unloaded l x = (s.withEngine l .stopped).emptyBuffer l := by
  unfold State.unloaded
  rw [ha]

theorem stopLine_ended {x : Ending} (hx : x ≠ .success) : AttemptEnded s (s.stopLine l x) l := by
  rw [stopLine_eq]
  cases ha : (s.line.get l).attempt with
  | none =>
    rw [unloaded_none ha]
    exact .of_noOwner (by rw [ha]; rfl) rfl rfl
  | some a =>
    rw [unloaded_some ha]
    exact (report_ends (r := (s.withEngine l .stopped).emptyBuffer l) ha hx rfl rfl).congr rfl rfl

theorem participates_stopLine (x : Ending) : (s.stopLine l x).participates l = false := by
  unfold State.participates
  rw [State.line_stopLine]
  rfl

theorem flags_stopLine {x : Ending} (hx : x ≠ .success) : (s.stopLine l x).flags = s.flags := by
  rw [stopLine_eq, State.flags_withLine]
  cases ha : (s.line.get l).attempt with
  | none => rw [unloaded_none ha]; rfl
  | some a => rw [unloaded_some ha]; exact flags_report_ended _ l a hx

/-- R121: a line stopped and reported, up to the notice. -/
def State.stopped (s : State) (l : LineId) (x : Ending) : State :=
  (s.stopLine l x).lineStateReport l (s.line.get l).state

/-- R44, R142: the report after a stop freezes what the line's usability held. -/
theorem stopped_reshapes {x : Ending} (hx : x ≠ .success) :
    Reshapes (s.stopLine l x) (s.stopped l x) (afterLoss s l) fun i e => e.notify && decide (LosesUse s l i e) := by
  have hnew := participates_stopLine (s := s) (l := l) x
  have hmode : (s.stopLine l x).mode l = s.mode l := by
    unfold State.mode
    rw [State.applied_stopLine]
  cases hold : (s.line.get l).state.participates with
  | true =>
    refine lineStateReport_leaves hold hnew ?_ fun i => State.home_of_bankMap (by rw [State.applied_stopLine]) i
    rw [hmode, State.cycle_stopLine s l hx]
    rfl
  | false =>
    have hno : ∀ i e, ¬ LosesUse s l i e := by
      rintro i e ⟨hu, _⟩
      unfold State.usable usableIn at hu
      rw [hold] at hu
      cases hu
    refine (lineStateReport_apart hold hnew).weaken fun i e _ => ?_
    rw [afterLoss, if_neg (hno i e), decide_eq_false (hno i e), Bool.and_false]
    exact ⟨rfl, rfl⟩

/-! ### DETACH -/

theorem detachLine_eq (h : s.isDetached l = false) : s.detachLine l = (s.stopped l .abortDetach).notice l := by
  unfold State.detachLine
  rw [h]
  rfl

theorem isDetached_stopped (x : Ending) : (s.stopped l x).isDetached l = true := by
  unfold State.stopped State.isDetached
  rw [State.line_lineStateReport, State.line_stopLine]
  rfl

theorem isDetached_stopped_other (x : Ending) : (s.stopped l x).isDetached l.other = s.isDetached l.other := by
  unfold State.stopped State.isDetached
  rw [State.line_lineStateReport, State.line_stopLine_other]

theorem applySet_stopped (x : Ending) : (s.stopped l x).applySet = s.applySet := by simp [State.stopped]

theorem applied_stopped (x : Ending) : (s.stopped l x).applied = s.applied := by simp [State.stopped]

/-- R16, R44, R52, R76, R82, R158: directory and queue after the stop of a line. -/
theorem stopped_directory (s : State) (l : LineId) {x : Ending} (hx : x ≠ .success) :
    (∀ i e, s.entry i = some e → (s.stopped l x).entry i = (afterAttempt s l i e).map (afterLoss s l i)) ∧
      (∀ i, s.entry i = none → (s.stopped l x).entry i = none) ∧
      QueueMoves s (s.stopped l x) (emptiedBy s l) (frozenAt s l) :=
  (stopLine_ended hx).thenLoss (stopped_reshapes hx)

theorem afterLoss_output {i : Index} {e : Entry} (hk : e.kind = .output) : afterLoss s l i e = e :=
  if_neg fun ⟨_, _, h, _⟩ => h hk

/-- R91, R186: of the entries only an OUTPUT can move with the notice of a DETACH, and then by one sampling. -/
theorem detachLine_entry (hnd : s.isDetached l = false) {i : Index} {e : Entry} (he : s.entry i = some e) :
    (e.kind ≠ .output ∨ s.applySet = none →
      (s.detachLine l).entry i = (afterAttempt s l i e).map (afterLoss s l i)) ∧
    (e.kind = .output → (s.detachLine l).entry i = afterAttempt s l i e ∨
      ∃ x, afterAttempt s l i e = some x ∧ x.state = .live ∧ x.held = false ∧
        ∃ v, x.staged = some v ∧ (s.detachLine l).entry i = some (sampledOnFree x v)) := by
  obtain ⟨hentry, _, _⟩ := stopped_directory s l (x := .abortDetach) (by simp)
  obtain ⟨q, hq⟩ := sampled_notice (s.stopped l .abortDetach) l
  have hafter := hq i
  rw [hentry i e he, ← detachLine_eq hnd] at hafter
  refine ⟨fun hquiet => ?_, fun hk => ?_⟩
  · obtain hk | hset := hquiet
    · rw [hafter]
      cases hattempt : afterAttempt s l i e with
      | none => rfl
      | some y =>
        have hy : (afterLoss s l i y).kind ≠ .output := by
          have hkind : (afterLoss s l i y).kind = y.kind := by
            unfold afterLoss
            split <;> rfl
          rw [hkind, (afterAttempt_some hattempt).1]
          exact hk
        exact congrArg some (sampledWhere_quiet (.inl hy))
    · rw [detachLine_eq hnd, State.notice_none _ l ((applySet_stopped _).trans hset)]
      exact hentry i e he
  · cases hattempt : afterAttempt s l i e with
    | none =>
      rw [hattempt] at hafter
      exact .inl hafter
    | some y =>
      have hy : y.kind = .output := (afterAttempt_some hattempt).1.trans hk
      rw [hattempt, Option.map_some, afterLoss_output hy, Option.map_some] at hafter
      by_cases hsamples : y.staged = none ∨ y.state ≠ .live ∨ y.held = true
      · rw [sampledWhere_quiet (.inr hsamples)] at hafter
        exact .inl hafter
      · simp only [not_or, not_not, Bool.not_eq_true] at hsamples
        obtain ⟨hstaged, hlive, hheld⟩ := hsamples
        obtain ⟨v, hv⟩ := Option.ne_none_iff_exists'.mp hstaged
        rw [sampledWhere_staged hy hlive hheld hv] at hafter
        split at hafter
        · exact .inr ⟨y, rfl, hlive, hheld, v, hv, hafter⟩
        · exact .inl hafter

theorem detachLine_vacant (hnd : s.isDetached l = false) {i : Index} (he : s.entry i = none) :
    (s.detachLine l).entry i = none := by
  obtain ⟨_, hvacant, _⟩ := stopped_directory s l (x := .abortDetach) (by simp)
  obtain ⟨q, hq⟩ := sampled_notice (s.stopped l .abortDetach) l
  rw [detachLine_eq hnd, hq i, hvacant i he, Option.map_none]

theorem detachLine_queue (hnd : s.isDetached l = false) :
    QueueMoves s (s.detachLine l) (emptiedBy s l) (frozenAt s l) := by
  obtain ⟨_, _, hqueue⟩ := stopped_directory s l (x := .abortDetach) (by simp)
  unfold QueueMoves
  rw [detachLine_eq hnd, State.queue_notice]
  exact hqueue

theorem detachLine_noSet (hnd : s.isDetached l = false) (hset : s.applySet = none) :
    SameSettings s (s.detachLine l) := by
  rw [detachLine_eq hnd, State.notice_none _ l ((applySet_stopped _).trans hset)]
  exact ⟨by simp [State.stopped], applied_stopped _, applySet_stopped _⟩

/-- R186, R188: the settings after a DETACH with a pending set. -/
theorem detachLine_applied (hnd : s.isDetached l = false) (hset : s.applySet = some p) :
    (s.detachLine l).applied.routes = s.applied.routes ∧
      (s.detachLine l).applied.line.get l.other = s.applied.line.get l.other ∧
      (s.detachLine l).applied.line.get l =
        (if p.lineWaiting.get l = true then p.values.line.get l else s.applied.line.get l) ∧
      (s.detachLine l).applied.bankMap =
        (if p.bankWaiting = true ∧ s.isDetached l.other = true ∧
            guardHolds p.values.bankMap (s.detachLine l).entries = true then
          p.values.bankMap else s.applied.bankMap) := by
  have hpending : (s.stopped l .abortDetach).applySet = some p := (applySet_stopped _).trans hset
  have hboth : bothDetached (s.stopped l .abortDetach) = s.isDetached l.other := by
    have hself := isDetached_stopped (s := s) (l := l) .abortDetach
    have hother := isDetached_stopped_other (s := s) (l := l) .abortDetach
    unfold bothDetached
    cases l with
    | a => rw [hself, Bool.true_and]; exact hother
    | b => rw [hself, Bool.and_true]; exact hother
  rw [detachLine_eq hnd]
  refine ⟨(routes_applied_notice hpending).trans (by rw [applied_stopped]),
    (line_applied_notice_other hpending).trans (by rw [applied_stopped]),
    (line_applied_notice hpending (isDetached_stopped _)).trans (by rw [applied_stopped]), ?_⟩
  rw [bankMap_applied_notice hpending, hboth, guardHolds_notice, applied_stopped]

theorem detachLine_unit (hnd : s.isDetached l = false) :
    ((s.detachLine l).cycle.get l).cycle = (s.cycle.get l).cycle ∧
      (s.participates l = true → UnitRests (s.detachLine l) l) := by
  rw [detachLine_eq hnd]
  refine ⟨?_, fun hp => UnitRests.notice (lineStateReport_rests hp (participates_stopLine _)) (isDetached_stopped _)⟩
  rw [cycleNumber_notice, State.stopped, cycleNumber_lineStateReport (participates_stopLine _),
    State.cycle_stopLine s l (by simp)]

theorem detachLine_flag (hnd : s.isDetached l = false) (m : LineId) (f : LineFlag) :
    (s.detachLine l).flag (.ofLine m f) = s.flag (.ofLine m f) := by
  have hflags : (s.stopped l .abortDetach).flags = s.flags := by
    unfold State.stopped
    rw [State.flags_lineStateReport, flags_stopLine (by simp)]
  rw [detachLine_eq hnd, State.flag_notice_ofLine]
  exact State.flag_of_flags hflags (by simp)

end

end Sys2Proof.Machine

/-! PROOFS. The request DETACH (R121), a line already DETACHED included (log 19). -/

namespace Sys2Proof.Machine

open Sys2Proof.Safety

section
variable {s : State} {l : LineId} {b : Byte}

theorem requestDetach_noLine (hb : 1 < b.toNat) : requestDetach b s = (s, .plain .badArg) := by
  simp only [requestDetach, lineOperand_none hb]

theorem requestDetach_line (hb : NamesLine b l) : requestDetach b s = ((s.detachLine l).judgePins, .plain .ok) := by
  simp only [requestDetach, lineOperand_names hb]

/-- R186, R188: a notice for a DETACHED line finds nothing to apply when each portion that waits has its reason. -/
theorem notice_waits (h : SetWaits s) (hd : s.isDetached l = true) : s.notice l = s := by
  cases hset : s.applySet with
  | none => exact State.notice_none s l hset
  | some p =>
    have hline : p.lineWaiting.get l = false := by
      by_contra hw
      obtain ⟨hnd, _⟩ := h.line p l hset (by simpa using hw)
      rw [hd] at hnd
      cases hnd
    have htry : s.tryLine l = s := by
      unfold State.tryLine
      simp [hset, hline]
    have hbanks : s.tryBanks = s := by
      unfold State.tryBanks
      cases hw : p.bankWaiting with
      | false => simp [hset, hw]
      | true =>
        obtain ⟨hmoves, hnd⟩ := h.bank p hset hw
        have hboth : (s.isDetached .a && s.isDetached .b) = false := by
          obtain hnd | hnd := hnd <;> simp [hnd]
        simp [hset, hw, hmoves, hboth]
    have hsome : (p.lineWaiting.a || p.lineWaiting.b || p.bankWaiting) = true := by
      obtain hw | hw | hw := h.waits p hset <;> simp [hw]
    unfold State.notice
    rw [htry, hbanks, State.finishSet_some s p hset, if_pos hsome]

/-- R165: a judgement of pins that agree with their demand moves none. -/
theorem judgePins_agree (h : PinsAgree s) : s.judgePins = s := by
  have hpin : ∀ p, (s.pins.get p).judge (s.demand p) = s.pins.get p := fun p => by
    have hp := h p
    cases hstate : s.pins.get p with
    | repulse => rfl
    | asserted =>
      have hdemand : s.demand p = true := (hp (by simp [hstate])).mp hstate
      rw [hdemand]
      rfl
    | released =>
      have hdemand : s.demand p = false := by
        rw [hstate] at hp
        simpa using hp
      rw [hdemand]
      rfl
  have hirq : s.pins.irq.judge (s.demand .irq) = s.pins.irq := hpin .irq
  have halert : s.pins.alert.judge (s.demand .alert) = s.pins.alert := hpin .alert
  unfold State.judgePins
  rw [hirq, halert]
  rfl

/-- Settles O23: the stop, the notice, and a line already DETACHED. -/
theorem detachStopsLine : Obligations.DetachStopsLine := by
  intro b n s hT
  refine ⟨fun hb => exec_unchanged _ _ n s .badArg rfl hT (requestDetach_noLine hb), fun l hb hd hset hpins => ?detached,
    fun l hb hnd => ?stops⟩
  case detached =>
    have hdetached : s.isDetached l = true := by simp [State.isDetached, hd]
    refine exec_answered _ _ n s s .ok [] [] rfl hT ?_ rfl
    generalize hr : s.shift _ = r
    have hsame : (r.detachLine l).judgePins = r := by
      have hrd : r.isDetached l = true := by rw [← hr]; exact hdetached
      have hrset : SetWaits r := by rw [← hr]; exact ⟨hset.waits, hset.line, hset.bank⟩
      have hrpins : PinsAgree r := by rw [← hr]; exact hpins
      rw [State.detachLine_detached _ _ hrd, notice_waits hrset hrd, judgePins_agree hrpins]
    refine (requestDetach_line hb).trans ?_
    rw [hsame, ← hr]
    rfl
  case stops =>
    refine ⟨_, (exec_request _ _ n s rfl).trans (congrArg _ (State.hostRequest_taken s _ n hT)), ?_⟩
    generalize hr : s.shift _ = r
    have hrun : runRequest (.detach b) r = ((r.detachLine l).judgePins, .plain .ok) := requestDetach_line hb
    have hnotDetached : r.isDetached l = false := by
      rw [← hr]
      exact beq_eq_false_iff_ne.mpr hnd
    rw [hrun]
    obtain ⟨hnumber, hrests⟩ := detachLine_unit hnotDetached
    subst hr
    refine ⟨rfl, State.line_detachLine _ l hnotDetached, State.engine_detachLine _ l hnotDetached, hnumber, fun hp => ?unit,
      ⟨State.line_detachLine_other _ l, State.engine_detachLine_other _ l, State.cycle_detachLine_other _ l⟩,
      State.staged_detachLine _ l, State.samples_detachLine _ l, State.pending_detachLine _ l, ?flags, ?pins,
      fun i e he => (detachLine_entry hnotDetached he).1, fun i e he => (detachLine_entry hnotDetached he).2, ?vacant, ?queue,
      fun hset => ?settings, fun p hset => detachLine_applied hnotDetached hset⟩
    case unit =>
      obtain ⟨hsync, hhold, hacting, hfresh, hdue, hperiod, hwatch⟩ := hrests hp
      exact ⟨hsync, hhold, hacting, hfresh, hdue, hperiod, hwatch⟩
    case flags => exact fun f m => detachLine_flag hnotDetached m f
    case pins => exact pinsJudged_judgePins (State.pins_detachLine _ l)
    case vacant => exact fun i he => detachLine_vacant hnotDetached he
    case queue => exact detachLine_queue hnotDetached
    case settings => exact detachLine_noSet hnotDetached hset

end

end Sys2Proof.Machine

/-! PROOFS. CLEAR (R19, R137, R155, R157, R168, R177, R183, R186). -/

namespace Sys2Proof.Machine

open Sys2Proof.Safety

/-! ### An empty directory -/

/-- R18, R19: no entry and no index in the queue. -/
def State.Emptied (s : State) : Prop := s.Vacant ∧ s.queue = []

theorem emptied_keptByReactions : KeptByReactions State.Emptied where
  same s t h he hq _ := ⟨fun i => (congrArg (·.get i) he).trans (h.1 i), hq.trans h.2⟩
  react s f h _ := by
    obtain ⟨hvacant, hqueue⟩ := h
    refine ⟨fun i => by rw [State.entry_react, hvacant i, Option.map_none], ?_⟩
    rw [State.queue_react_quiet fun i e he => ?_, hqueue]
    rw [hvacant i] at he
    cases he

section
variable {s x : State} {l : LineId}

theorem State.Emptied.clearLine (h : x.Emptied) : (s.clearLine x l).Emptied := by
  unfold State.clearLine
  split
  · exact h
  · obtain ⟨hvacant, hqueue⟩ := h
    have hended : AttemptEnded x (x.stopLine l .abortClear) l := stopLine_ended (by simp)
    exact ⟨fun i => hended.vacant i (hvacant i), by rw [hended.queue, hqueue]; rfl⟩

theorem State.Emptied.clearReport (h : x.Emptied) : (s.clearReport x l).Emptied := by
  unfold State.clearReport
  split
  · exact h
  · exact emptied_keptByReactions.lineStateReport h _

theorem State.Emptied.notice (h : x.Emptied) : (x.notice l).Emptied := by
  obtain ⟨hvacant, hqueue⟩ := h
  obtain ⟨q, hq⟩ := sampled_notice x l
  exact ⟨fun i => by rw [hq i, hvacant i, Option.map_none], by rw [State.queue_notice, hqueue]⟩

theorem cleared_emptied (s : State) : s.cleared.Emptied :=
  .clearReport (.clearReport (.clearLine (.clearLine ⟨fun i => Directory.get_empty i, rfl⟩)))

theorem clearPart_emptied (s : State) : s.clearPart.Emptied := by
  rw [State.clearPart_eq]
  exact .notice (.notice (cleared_emptied s))

/-! ### Lines, units and flags up to the notices -/

theorem isDetached_cleared (s : State) (l : LineId) : s.cleared.isDetached l = true := by
  unfold State.isDetached
  rw [State.line_cleared, State.line_clearStopped]
  unfold State.clearedLine
  split
  next h => exact h
  next => rfl

theorem applySet_clearLine (s x : State) (l : LineId) : (s.clearLine x l).applySet = x.applySet := by
  unfold State.clearLine
  split <;> simp

theorem applySet_clearReport (s x : State) (l : LineId) : (s.clearReport x l).applySet = x.applySet := by
  unfold State.clearReport
  split <;> simp

theorem applySet_cleared (s : State) : s.cleared.applySet = s.applySet := by
  unfold State.cleared
  rw [applySet_clearReport, applySet_clearReport, applySet_clearLine, applySet_clearLine]
  rfl

theorem flags_clearLine (s x : State) (l : LineId) : (s.clearLine x l).flags = x.flags := by
  unfold State.clearLine
  split
  · rfl
  · exact flags_stopLine (by simp)

theorem flags_clearReport (s x : State) (l : LineId) : (s.clearReport x l).flags = x.flags := by
  unfold State.clearReport
  split <;> simp

/-- R168: CLEAR takes the latched flags down before anything is raised. -/
theorem flags_cleared (s : State) : s.cleared.flags = .clear := by
  unfold State.cleared
  rw [flags_clearReport, flags_clearReport, flags_clearLine, flags_clearLine]
  rfl

/-- R137, R142: the units of the lines that CLEAR stops. -/
theorem unit_cleared (s : State) (l : LineId) :
    (s.cleared.cycle.get l).cycle = (s.cycle.get l).cycle ∧ (s.participates l = true → UnitRests s.cleared l) := by
  obtain ⟨x, hx, hline, hcycle, happlied⟩ := s.cycle_cleared l
  have hclearedApplied : s.cleared.applied.line.get l = x.applied.line.get l := by rw [State.applied_cleared, happlied]
  cases hd : s.isDetached l with
  | true =>
    have hsame : s.clearReport x l = x := if_pos hd
    rw [hsame] at hx
    refine ⟨by rw [hx, hcycle], fun hp => ?_⟩
    rw [State.isDetached_of_participates hp] at hd
    cases hd
  | false =>
    have hreport : s.clearReport x l = x.lineStateReport l (s.line.get l).state := by
      unfold State.clearReport
      rw [hd]
      rfl
    have hnew : x.participates l = false := by
      unfold State.participates
      rw [hline, State.line_clearStopped, State.clearedLine, hd]
      rfl
    rw [hreport] at hx
    refine ⟨by rw [hx, cycleNumber_lineStateReport hnew, hcycle], fun hp => ?_⟩
    exact (lineStateReport_rests hp hnew).congr hx (by rw [State.applied_lineStateReport]; exact hclearedApplied)

/-! ### The notices -/

variable {p : ApplySet}

/-- R186, R188: a notice with both lines DETACHED and a map that keeps the guard lands all but the other line's
portion. -/
theorem notice_lands (h : s.applySet = some p) (hd : bothDetached s = true)
    (hg : guardHolds p.values.bankMap s.entries = true) :
    (s.notice l).applySet =
        (if p.lineWaiting.get l.other = true then
          some { p with lineWaiting := p.lineWaiting.set l false, bankWaiting := false } else none) ∧
      (s.notice l).flags =
        (if p.lineWaiting.get l.other = true then s.flags else { s.flags with applyDone := true }) := by
  have hself : s.isDetached l = true := by
    obtain ⟨ha, hb⟩ := Bool.and_eq_true_iff.mp hd
    cases l with
    | a => exact ha
    | b => exact hb
  have hline : s.lineStays p l = false := by
    unfold State.lineStays
    rw [hself, Bool.not_true, Bool.and_false, Bool.false_and]
  have hset := State.applySet_tryLine l h
  rw [hline] at hset
  have hboth : bothDetached (s.tryLine l) = true := by
    unfold bothDetached State.isDetached
    rw [State.line_tryLine]
    exact hd
  have hstay : ∀ p', (s.tryLine l).banksStay p' = false := fun p' => by
    unfold State.banksStay
    rw [hboth, Bool.not_true, Bool.and_false]
  have hfail : ∀ y, (s.tryLine l).banksFail { p with lineWaiting := y } = false := fun y => by
    unfold State.banksFail
    dsimp only
    rw [guardHolds_tryLine, hg, Bool.not_true, Bool.and_false]
  have hbanks : (s.tryLine l).tryBanks.applySet =
      some { p with lineWaiting := p.lineWaiting.set l false, bankWaiting := false } := by
    rw [State.applySet_tryBanks hset, hstay]
  have hflags : (s.tryLine l).tryBanks.flags = s.flags := by
    rw [State.tryBanks_some hset, hfail]
    split <;> simp [State.raiseIf]
  have hwaits : ((p.lineWaiting.set l false).a || (p.lineWaiting.set l false).b || false) = p.lineWaiting.get l.other := by
    cases l <;> simp [PerLine.set, PerLine.get, LineId.other]
  have hfinish : s.notice l = _ := State.finishSet_some _ _ hbanks
  rw [hfinish, hwaits]
  split
  · exact ⟨hbanks, hflags⟩
  · exact ⟨rfl, by rw [← hflags]; rfl⟩

/-- R168, R186: what the notices of CLEAR make of the settings and of APPLY_DONE. -/
structure SetCleared (s t : State) : Prop where
  noSet : t.applySet = none
  routes : t.applied.routes = s.applied.routes
  line : ∀ l, t.applied.line.get l = match s.applySet with
    | some p => if p.lineWaiting.get l = true then p.values.line.get l else s.applied.line.get l
    | none => s.applied.line.get l
  bankMap : t.applied.bankMap = match s.applySet with
    | some p => if p.bankWaiting = true then p.values.bankMap else s.applied.bankMap
    | none => s.applied.bankMap
  flags : t.flags = { s.flags with applyDone := s.flags.applyDone || s.applySet.isSome }

/-- R186, R188: both notices, when both lines are DETACHED and the directory is empty. -/
theorem notices_clear (hx : x.Emptied) (hd : ∀ l, x.isDetached l = true) :
    SetCleared x ((x.notice .a).notice .b) := by
  have hboth : bothDetached x = true := by
    unfold bothDetached
    rw [hd, hd]
    rfl
  cases hset : x.applySet with
  | none =>
    rw [State.notice_none x .a hset, State.notice_none x .b hset]
    exact ⟨hset, rfl, fun l => by rw [hset], by rw [hset], by rw [hset, Option.isSome_none, Bool.or_false]⟩
  | some p =>
    have hguard : guardHolds p.values.bankMap x.entries = true := guardHolds_vacant hx.1
    obtain ⟨hfirst, hflags⟩ := notice_lands (l := .a) hset hboth hguard
    have ha := line_applied_notice (l := .a) hset (hd .a)
    have hb := line_applied_notice_other (l := .a) hset
    have hmap := bankMap_applied_notice (l := .a) hset
    have hroutes := routes_applied_notice (l := .a) hset
    simp only [hboth, hguard, and_true] at hmap
    have hdetached : ∀ l, (x.notice .a).isDetached l = true := fun l =>
      (State.isDetached_of_line (by rw [State.line_notice])).trans (hd l)
    have hboth' : bothDetached (x.notice .a) = true := by
      unfold bothDetached
      rw [hdetached, hdetached]
      rfl
    cases hw : p.lineWaiting.get .b with
    | false =>
      rw [show LineId.other .a = .b from rfl, hw, if_neg Bool.false_ne_true] at hfirst hflags
      rw [State.notice_none _ .b hfirst]
      refine ⟨hfirst, hroutes, fun l => ?_, by rw [hset]; exact hmap, by rw [hflags, hset, Option.isSome_some, Bool.or_true]⟩
      rw [hset]
      cases l with
      | a => exact ha
      | b => exact hb.trans (if_neg (Bool.eq_false_iff.mp hw)).symm
    | true =>
      rw [show LineId.other .a = .b from rfl, hw, if_pos rfl] at hfirst hflags
      obtain ⟨hsecond, hdone⟩ := notice_lands (l := .b) hfirst hboth' (guardHolds_vacant hx.notice.1)
      have hlands : ({ p with lineWaiting := p.lineWaiting.set .a false, bankWaiting := false } : ApplySet).lineWaiting.get
          (LineId.other .b) = false := PerLine.get_set_self p.lineWaiting .a false
      rw [hlands, if_neg Bool.false_ne_true] at hsecond hdone
      refine ⟨hsecond, (routes_applied_notice hfirst).trans hroutes, fun l => ?_, ?_, ?_⟩
      · rw [hset]
        cases l with
        | a => exact (line_applied_notice_other (l := .b) hfirst).trans ha
        | b => exact (line_applied_notice (l := .b) hfirst (hdetached .b)).trans ((if_pos hw).trans (if_pos hw).symm)
      · rw [hset, bankMap_applied_notice hfirst, if_neg fun h => Bool.false_ne_true h.1]
        exact hmap
      · rw [hdone, hflags, hset, Option.isSome_some, Bool.or_true]

end

/-- Settles O47: the lines, the units, and the notices over an empty directory. -/
theorem clearEmptiesPart : Obligations.ClearEmptiesPart := by
  intro n s hT
  refine ⟨_, (exec_request _ _ n s rfl).trans (congrArg _ (State.hostRequest_taken s _ n hT)), ?_⟩
  generalize hr : s.shift _ = r
  have hcleared := notices_clear (cleared_emptied r) (isDetached_cleared r)
  rw [← State.clearPart_eq] at hcleared
  obtain ⟨hvacant, hqueue⟩ := clearPart_emptied r
  have hunit : ∀ l, (r.clearPart.cycle.get l).cycle = (r.cycle.get l).cycle := fun l => by
    rw [State.clearPart_eq, cycleNumber_notice, cycleNumber_notice, (unit_cleared r l).1]
  have hrests : ∀ l, r.participates l = true → UnitRests r.clearPart l := fun l hp => by
    have hrest := (unit_cleared r l).2 hp
    rw [State.clearPart_eq]
    cases l with
    | a => exact (hrest.notice (isDetached_cleared r .a)).notice_other rfl
    | b =>
      exact (hrest.notice_other (l := .a) rfl).notice
        ((State.isDetached_of_line (by rw [State.line_notice])).trans (isDetached_cleared r .b))
  have hflags : r.clearPart.flags = { Flags.clear with applyDone := r.applySet.isSome } := by
    rw [hcleared.flags, flags_cleared, applySet_cleared]
    rfl
  have hstopped : ∀ l, (r.line.get l).state ≠ .detached →
      r.clearPart.line.get l = (r.line.get l).stop ∧ r.clearPart.engine.get l = .stopped := fun l hl => by
    have hnd : r.isDetached l = false := beq_eq_false_iff_ne.mpr hl
    rw [r.line_clearPart, r.engine_clearPart, State.clearedLine, State.clearedEngine, hnd]
    exact ⟨rfl, rfl⟩
  have hkept : ∀ l, (r.line.get l).state = .detached →
      r.clearPart.line.get l = r.line.get l ∧ r.clearPart.engine.get l = r.engine.get l := fun l hl => by
    have hd : r.isDetached l = true := beq_iff_eq.mpr hl
    rw [r.line_clearPart, r.engine_clearPart, State.clearedLine, State.clearedEngine, hd]
    exact ⟨rfl, rfl⟩
  subst hr
  refine ⟨rfl, hvacant, hqueue, hstopped, hkept, hunit, fun l hp => ?unit, fun f m => ?lineFlags, ?done, ?fault,
    State.staged_clearPart _, hcleared.noSet, ?routes, fun l => ?line, ?bankMap, fun p => ?pins, State.samples_clearPart _,
    State.pending_clearPart _⟩
  case unit =>
    obtain ⟨hsync, hhold, hacting, hfresh, hdue, hperiod, hwatch⟩ := hrests l hp
    exact ⟨hsync, hhold, hacting, hfresh, hdue, hperiod, hwatch⟩
  case lineFlags =>
    have hclear : (Flags.clear.line.get m).get f = false := by cases m <;> cases f <;> rfl
    exact (congrArg (fun x : Flags => (x.line.get m).get f) hflags).trans hclear
  case done => exact congrArg Flags.applyDone hflags
  case fault => exact congrArg Flags.applyFault hflags
  case routes => exact hcleared.routes.trans (congrArg Settings.routes (State.applied_cleared _))
  case line =>
    have hline := hcleared.line l
    rw [applySet_cleared, State.applied_cleared] at hline
    exact hline
  case bankMap =>
    have hmap := hcleared.bankMap
    rw [applySet_cleared, State.applied_cleared] at hmap
    exact hmap
  case pins =>
    refine (State.pins_servicePins _ _ p).trans ?_
    rw [State.pins_clearPart]
    rfl

end Sys2Proof.Machine

/-! PROOFS. APPLY by its portions (R27, R62, R91, R156, R185 to R188, R191). -/

namespace Sys2Proof.Machine

open Sys2Proof.Safety

section
variable {s : State} {l : LineId} {p : ApplySet}

/-! ### The stages of APPLY -/

/-- R185: the set that APPLY starts. -/
def State.freshSet (s : State) : ApplySet :=
  { values := s.staged, lineWaiting := { a := true, b := true }, bankWaiting := true }

/-- R185: the routes in force, the other portions waiting. -/
def State.routed (s : State) : State :=
  (s.withApplied { s.applied with routes := s.staged.routes }).withApplySet (some s.freshSet)

/-- R186: the line portions tried. -/
def State.linesTried (s : State) : State := (s.routed.tryLine .a).tryLine .b

/-- The set once the line portions have been tried. -/
def State.linesSet (s : State) : ApplySet :=
  { s.freshSet with lineWaiting := { a := lineWouldWait s .a, b := lineWouldWait s .b } }

theorem applyStaged_eq (s : State) : s.applyStaged = s.linesTried.tryBanks.finishSet := rfl

theorem applySet_routed (s : State) : s.routed.applySet = some s.freshSet := rfl

theorem applySet_routedA (s : State) :
    (s.routed.tryLine .a).applySet =
      some { s.freshSet with lineWaiting := { a := lineWouldWait s .a, b := true } } := by
  rw [State.applySet_tryLine .a (applySet_routed s)]
  rfl

theorem applySet_linesTried (s : State) : s.linesTried.applySet = some s.linesSet := by
  have hline : (s.routed.tryLine .a).applied.line.get .b = s.applied.line.get .b := by
    rw [State.applied_tryLine .a (applySet_routed s)]
    split <;> rfl
  have hstays : (s.routed.tryLine .a).lineStays
      { s.freshSet with lineWaiting := { a := lineWouldWait s .a, b := true } } .b = lineWouldWait s .b := by
    unfold State.lineStays lineWouldWait State.isDetached
    rw [State.line_tryLine, hline]
    rfl
  unfold State.linesTried
  rw [State.applySet_tryLine .b (applySet_routedA s), hstays]
  rfl

theorem line_linesTried (s : State) : s.linesTried.line = s.line := by
  unfold State.linesTried
  rw [State.line_tryLine, State.line_tryLine]
  rfl

theorem isDetached_linesTried (s : State) (l : LineId) : s.linesTried.isDetached l = s.isDetached l :=
  State.isDetached_of_line (by rw [line_linesTried])

theorem bothDetached_linesTried (s : State) : bothDetached s.linesTried = bothDetached s := by
  unfold bothDetached
  rw [isDetached_linesTried, isDetached_linesTried]

theorem applied_linesTried (s : State) :
    s.linesTried.applied.bankMap = s.applied.bankMap ∧ s.linesTried.applied.routes = s.staged.routes ∧
      ∀ l, s.linesTried.applied.line.get l = if s.isDetached l then s.staged.line.get l else s.applied.line.get l := by
  have hfirst : (s.routed.tryLine .a).applied =
      if s.isDetached .a then s.routed.applied.putLine .a (s.staged.line.get .a) else s.routed.applied :=
    State.applied_tryLine .a (applySet_routed s)
  have hdetached : (s.routed.tryLine .a).isDetached .b = s.isDetached .b :=
    State.isDetached_of_line (by rw [State.line_tryLine]; rfl)
  have hsecond : s.linesTried.applied =
      if s.isDetached .b then (s.routed.tryLine .a).applied.putLine .b (s.staged.line.get .b)
      else (s.routed.tryLine .a).applied := by
    unfold State.linesTried
    rw [State.applied_tryLine .b (applySet_routedA s), hdetached]
    rfl
  rw [hsecond, hfirst]
  refine ⟨?_, ?_, fun l => ?_⟩
  · split <;> split <;> rfl
  · split <;> split <;> rfl
  · cases l <;> cases s.isDetached .a <;> cases s.isDetached .b <;> rfl

theorem guardHolds_linesTried (m : BankMap) (s : State) : guardHolds m s.linesTried.entries = guardHolds m s.entries := by
  unfold State.linesTried
  rw [guardHolds_tryLine, guardHolds_tryLine]
  rfl

/-! ### The bank-map portion -/

theorem banksStay_linesTried (s : State) : s.linesTried.banksStay s.linesSet = banksWouldWait s := by
  unfold State.banksStay banksWouldWait
  rw [bothDetached_linesTried, (applied_linesTried s).1]
  rfl

theorem banksGo_linesTried (s : State) : s.linesTried.banksGo s.linesSet = banksMove s := by
  unfold State.banksGo banksMove
  rw [bothDetached_linesTried, (applied_linesTried s).1, guardHolds_linesTried]
  rfl

theorem banksFail_linesTried (s : State) : s.linesTried.banksFail s.linesSet = banksRefused s := by
  unfold State.banksFail banksRefused
  rw [bothDetached_linesTried, (applied_linesTried s).1, guardHolds_linesTried]
  rfl

/-- R186, R188: a portion of APPLY waits. -/
def applyWaits (s : State) : Bool := lineWouldWait s .a || lineWouldWait s .b || banksWouldWait s

theorem finishSet_applied (s : State) :
    s.applyStaged = if applyWaits s then s.linesTried.tryBanks
      else (s.linesTried.tryBanks.withApplySet none).raise .applyDone := by
  have hset : s.linesTried.tryBanks.applySet = some { s.linesSet with bankWaiting := banksWouldWait s } := by
    rw [State.applySet_tryBanks (applySet_linesTried s), banksStay_linesTried]
  exact (State.finishSet_some _ _ hset)

theorem applySet_applyStaged (s : State) :
    s.applyStaged.applySet = if applyWaits s = true then some
      { values := s.staged, lineWaiting := { a := lineWouldWait s .a, b := lineWouldWait s .b }
        bankWaiting := banksWouldWait s } else none := by
  rw [finishSet_applied]
  split
  · rw [State.applySet_tryBanks (applySet_linesTried s), banksStay_linesTried]
    rfl
  · rfl

theorem applied_applyStaged (s : State) :
    s.applyStaged.applied =
      if banksMove s then { s.linesTried.applied with bankMap := s.staged.bankMap } else s.linesTried.applied := by
  rw [applyStaged_eq, State.applied_finishSet, State.applied_tryBanks (applySet_linesTried s), banksGo_linesTried]
  rfl

/-- R187: a line portion in force, or left waiting. -/
theorem line_applied_applyStaged (s : State) (l : LineId) :
    s.applyStaged.applied.line.get l =
      if lineWouldWait s l = true then s.applied.line.get l else s.staged.line.get l := by
  have hline : s.applyStaged.applied.line.get l =
      if s.isDetached l then s.staged.line.get l else s.applied.line.get l := by
    rw [applied_applyStaged]
    split <;> exact (applied_linesTried s).2.2 l
  rw [hline]
  unfold lineWouldWait
  cases s.isDetached l with
  | true => rfl
  | false => by_cases hsame : s.staged.line.get l = s.applied.line.get l <;> simp [hsame]

/-- R188: the map in force: the staged one unless it waits or is refused. -/
theorem bankMap_applied_applyStaged (s : State) :
    s.applyStaged.applied.bankMap =
      if banksWouldWait s = true ∨ banksRefused s = true then s.applied.bankMap else s.staged.bankMap := by
  have hmap : s.applyStaged.applied.bankMap = if banksMove s then s.staged.bankMap else s.applied.bankMap := by
    rw [applied_applyStaged]
    split
    · rfl
    · exact (applied_linesTried s).1
  rw [hmap]
  unfold banksMove banksWouldWait banksRefused
  by_cases hsame : s.staged.bankMap = s.applied.bankMap
  · simp [hsame]
  · cases bothDetached s with
    | false => simp [hsame]
    | true => cases guardHolds s.staged.bankMap s.entries <;> simp [hsame]

theorem routes_applied_applyStaged (s : State) : s.applyStaged.applied.routes = s.staged.routes := by
  rw [applied_applyStaged]
  split <;> exact (applied_linesTried s).2.1

/-- R27, R185: APPLY_DONE when nothing waits, APPLY_FAULT when the map is refused. -/
theorem applyStaged_raises (s : State) :
    Raises s s.applyStaged fun f => (f == .applyDone && !applyWaits s) || (f == .applyFault && banksRefused s) := by
  intro f hf
  have hlines : s.linesTried.flags = s.flags := by
    unfold State.linesTried
    rw [State.flags_tryLine, State.flags_tryLine]
    rfl
  have hbanks : s.linesTried.tryBanks.flag f = (s.flag f || (banksRefused s && f == .applyFault)) := by
    rw [State.tryBanks_some (applySet_linesTried s), banksFail_linesTried, State.flag_raiseIf _ _ _ _ (by simp)]
    refine congrArg (· || _) (State.flag_of_flags ?_ hf)
    rw [State.flags_withApplySet]
    split
    · rw [State.flags_moveBanks, hlines]
    · exact hlines
  rw [finishSet_applied]
  cases hw : applyWaits s with
  | true =>
    rw [if_pos rfl, hbanks]
    simp [Bool.and_comm]
  | false =>
    have hdone : ((s.linesTried.tryBanks.withApplySet none).raise .applyDone).flag f =
        (s.linesTried.tryBanks.flag f || f == .applyDone) := State.flag_raise _ _ _ (by simp)
    rw [if_neg Bool.false_ne_true, hdone, hbanks]
    simp only [Bool.not_false, Bool.and_true]
    ac_rfl

/-! ### Units and entries -/

theorem cycle_tryLine (h : s.applySet = some p) :
    (s.tryLine l).cycle.get l =
      if p.lineWaiting.get l && s.isDetached l then
        { s.cycle.get l with sync := idleSync (p.values.line.get l).cycleMode, acting := (p.values.line.get l).role }
      else s.cycle.get l := by
  rw [State.tryLine_some l h, State.cycle_withApplySet]
  split
  · exact State.cycle_applyLineItems s l _
  · rfl

/-- R156, R187: the units of the DETACHED lines. -/
theorem cycle_applyStaged (s : State) (l : LineId) :
    s.applyStaged.cycle.get l =
      if s.isDetached l = true then
        { s.cycle.get l with sync := idleSync (s.staged.line.get l).cycleMode, acting := (s.staged.line.get l).role }
      else s.cycle.get l := by
  have hlines : s.applyStaged.cycle.get l = s.linesTried.cycle.get l := by
    rw [applyStaged_eq, State.cycle_finishSet, State.cycle_tryBanks]
  have hdetached : (s.routed.tryLine .a).isDetached .b = s.isDetached .b :=
    State.isDetached_of_line (by rw [State.line_tryLine]; rfl)
  rw [hlines]
  unfold State.linesTried
  cases l with
  | a => exact (State.cycle_tryLine_other (s.routed.tryLine .a) .b).trans (cycle_tryLine (applySet_routed s))
  | b =>
    have hother : (s.routed.tryLine .a).cycle.get .b = s.cycle.get .b := State.cycle_tryLine_other s.routed .a
    rw [cycle_tryLine (applySet_routedA s), hother, hdetached]
    rfl

theorem lineSamples_congr {r : State} (hd : r.isDetached l = s.isDetached l)
    (hline : r.applied.line.get l = s.applied.line.get l) (hmap : r.applied.bankMap = s.applied.bankMap)
    (p : ApplySet) (i : Index) : r.lineSamples p l i = s.lineSamples p l i := by
  unfold State.lineSamples State.mode
  rw [hd, hline, State.home_of_bankMap hmap]

/-- R27, R62, R191: what the bank-map portion samples, once the line portions have been tried. -/
theorem bankSamples_linesTried (s : State) (i : Index) :
    s.linesTried.bankSamples s.linesSet i =
      (banksMove s && decide (s.staged.bankMap.home i ≠ s.home i) &&
        decide ((s.staged.line.get (s.staged.bankMap.home i)).cycleMode = .free)) := by
  have hhome : s.linesTried.home i = s.home i := State.home_of_bankMap (applied_linesTried s).1 i
  unfold State.bankSamples
  rw [banksGo_linesTried, hhome, Bool.and_assoc]
  cases hm : banksMove s with
  | false => rfl
  | true =>
    -- the banks move only with both lines DETACHED, so both line portions are in force
    have hboth : bothDetached s = true := by
      unfold banksMove at hm
      exact (Bool.and_eq_true_iff.mp (Bool.and_eq_true_iff.mp hm).1).2
    have hdetached : ∀ m, s.isDetached m = true := fun m => by
      obtain ⟨ha, hb⟩ := Bool.and_eq_true_iff.mp hboth
      cases m with
      | a => exact ha
      | b => exact hb
    have hmode : ∀ m, s.linesTried.mode m = (s.staged.line.get m).cycleMode := fun m => by
      unfold State.mode
      rw [(applied_linesTried s).2.2 m, hdetached m, if_pos rfl]
    have hmap : s.linesSet.values.bankMap = s.staged.bankMap := rfl
    rw [hmode, hmap]
    have hne : (s.home i != s.staged.bankMap.home i) = decide (s.staged.bankMap.home i ≠ s.home i) := by
      cases s.home i <;> cases s.staged.bankMap.home i <;> rfl
    rw [hne]
    rfl

/-- R62, R91, R187, R191: the positions APPLY samples. -/
theorem sampled_applyStaged (s : State) : Sampled s s.applyStaged (sampledByApply s) := by
  have hrouted : Sampled s s.routed fun _ => false := .none rfl
  have hfirst := sampled_tryLine (l := .a) (applySet_routed s)
  have hsecond := sampled_tryLine (l := .b) (applySet_routedA s)
  have hbanks := sampled_tryBanks (applySet_linesTried s)
  have hfinish : Sampled s.linesTried.tryBanks s.applyStaged fun _ => false :=
    .none (State.entries_finishSet s.linesTried.tryBanks)
  refine ((((hrouted.trans hfirst).trans hsecond).trans hbanks).trans hfinish).congr rfl fun i => ?_
  have hA : s.routed.lineSamples s.freshSet .a i =
      (s.isDetached .a && (decide (s.mode .a = .beaconed ∧ (s.staged.line.get .a).cycleMode = .free) && (s.home i == .a))) :=
    rfl
  have hline : (s.routed.tryLine .a).applied.line.get .b = s.routed.applied.line.get .b := by
    rw [State.applied_tryLine .a (applySet_routed s)]
    split <;> rfl
  have hmap : (s.routed.tryLine .a).applied.bankMap = s.routed.applied.bankMap := by
    rw [State.applied_tryLine .a (applySet_routed s)]
    split <;> rfl
  have hB : (s.routed.tryLine .a).lineSamples { s.freshSet with lineWaiting := { a := lineWouldWait s .a, b := true } } .b i =
      (s.isDetached .b && (decide (s.mode .b = .beaconed ∧ (s.staged.line.get .b).cycleMode = .free) && (s.home i == .b))) :=
    lineSamples_congr (s := s.routed) (State.isDetached_of_line (by rw [State.line_tryLine])) hline hmap _ i
  rw [hA, hB, bankSamples_linesTried, Bool.false_or, Bool.or_false]
  refine congrArg (· || _) ?_
  cases s.home i <;> simp [Bool.and_assoc]

end

/-! ### The request -/

/-- Settles O46, portion by portion. -/
theorem applyByPortions : Obligations.ApplyByPortions := by
  intro n s hT
  refine ⟨_, (exec_request _ _ n s rfl).trans (congrArg _ (State.hostRequest_taken s _ n hT)), ?_⟩
  generalize hr : s.shift _ = r
  have hstatus : (if r.applyStaged.applySet.isNone then Status.ok else .pending) =
      if applyWaits r = true then .pending else .ok := by
    rw [applySet_applyStaged]
    cases applyWaits r <;> rfl
  have hheld : ((runRequest .apply r).2.response Request.apply.responseLength) =
      { status := if applyWaits r = true then .pending else .ok, result := [] } := by
    show (Answer.plain (if r.applyStaged.applySet.isNone then Status.ok else .pending)).response 1 = _
    rw [hstatus]
    cases applyWaits r <;> rfl
  have hsampled := sampled_applyStaged r
  subst hr
  refine ⟨hheld, State.staged_applyStaged _, routes_applied_applyStaged _, line_applied_applyStaged _,
    bankMap_applied_applyStaged _, applySet_applyStaged _, applyStaged_raises _, State.line_applyStaged _,
    State.engine_applyStaged _, State.queue_applyStaged _, pinsJudged_judgePins (State.pins_applyStaged _),
    State.samples_applyStaged _, State.pending_applyStaged _, cycle_applyStaged _, fun i e he h => ?quiet,
    fun i e v he hk hs hheld hv => ?sampled, fun i he => ?vacant⟩
  case quiet => exact (hsampled i).trans ((congrArg (Option.map _) he).trans (congrArg some (sampledWhere_quiet h)))
  case sampled =>
    exact (hsampled i).trans ((congrArg (Option.map _) he).trans (congrArg some (sampledWhere_staged hk hs hheld hv)))
  case vacant => exact (hsampled i).trans (congrArg (Option.map _) he)

end Sys2Proof.Machine

/-! PROOFS. The bits of a frame: pacing, its inverse, and the fields read back from a part (R93 to R100). -/

namespace Sys2Proof.Machine

open Sys2Proof.Safety

/-! ### Numbers as bits -/

theorem length_natBits (width n : Nat) : (natBits width n).length = width := by
  induction width with
  | zero => rfl
  | succ w ih => simp [natBits, ih]

/-- Bits read after those of a number. -/
theorem foldl_natBits (width n acc : Nat) :
    (natBits width n).foldl (fun acc b => 2 * acc + b.toNat) acc = acc * 2 ^ width + n % 2 ^ width := by
  induction width generalizing acc with
  | zero => simp [natBits, Nat.mod_one]
  | succ w ih =>
    simp only [natBits, List.foldl_cons, ih]
    have hbit : (n.testBit w).toNat = n / 2 ^ w % 2 := Nat.toNat_testBit n w
    have hmod : n % 2 ^ (w + 1) = n % 2 ^ w + 2 ^ w * (n / 2 ^ w % 2) := by
      rw [pow_succ, Nat.mod_mul]
    rw [hbit, hmod, pow_succ]
    ring

/-- R93: a number is read back from its bits. -/
theorem bitsNat_natBits (width n : Nat) : bitsNat (natBits width n) = n % 2 ^ width := by
  unfold bitsNat
  rw [foldl_natBits, Nat.zero_mul, Nat.zero_add]

theorem bitsNat_natBits_bitVec {width : Nat} (x : BitVec width) : bitsNat (natBits width x.toNat) = x.toNat := by
  rw [bitsNat_natBits, Nat.mod_eq_of_lt x.isLt]

/-! ### Pacing -/

theorem length_pace (k : Nat) (xs : List Bool) (hk : k ≤ 7) : (pace k xs).length = xs.length + (xs.length + k) / 8 := by
  induction xs generalizing k with
  | nil => simp [pace]; omega
  | cons b bs ih =>
    unfold pace
    split
    next h =>
      simp only [List.length_cons, ih 0 (by omega)]
      omega
    next h =>
      simp only [List.length_cons, ih (k + 1) (by omega)]
      omega

/-- R98: a pace bit is the inverse of the bit before it. -/
theorem pace_inverts (k i : Nat) (xs : List Bool) (hk : k ≤ 7) (hi : i + 1 < (pace k xs).length)
    (hpace : (i + 1 + k) % 9 = 8) : (pace k xs).getD (i + 1) true = !(pace k xs).getD i true := by
  induction xs generalizing k i with
  | nil => simp [pace] at hi
  | cons b bs ih =>
    unfold pace at hi ⊢
    split at hi
    next h =>
      rw [if_pos h]
      match i with
      | 0 => rfl
      | 1 => omega
      | i + 2 =>
        simp only [List.length_cons] at hi
        exact ih 0 i (by omega) (by omega) (by omega)
    next h =>
      rw [if_neg h]
      match i with
      | 0 => omega
      | i + 1 =>
        simp only [List.length_cons] at hi
        exact ih (k + 1) i (by omega) (by omega) (by omega)

theorem length_unpace (k : Nat) (xs : List Bool) (hk : k ≤ 8) :
    (unpace k xs).length = xs.length - (xs.length + k) / 9 := by
  induction xs generalizing k with
  | nil => simp [unpace]
  | cons b bs ih =>
    unfold unpace
    split
    next h =>
      simp only [List.length_cons, ih 0 (by omega)]
      omega
    next h =>
      simp only [List.length_cons, ih (k + 1) (by omega)]
      omega

/-- The count of content bits since the last pace bit, after more line bits. -/
def paceState : Nat → List Bool → Nat
  | k, [] => k
  | k, _ :: bs => paceState (if k = 8 then 0 else k + 1) bs

theorem unpace_append (k : Nat) (xs ys : List Bool) :
    unpace k (xs ++ ys) = unpace k xs ++ unpace (paceState k xs) ys := by
  induction xs generalizing k with
  | nil => rfl
  | cons b bs ih =>
    simp only [List.cons_append, unpace, paceState]
    split
    next h => exact ih 0
    next h => rw [ih (k + 1), List.cons_append]

/-- R99: the content bits of a paced region. -/
theorem unpace_pace (k : Nat) (xs : List Bool) (hk : k ≤ 7) : unpace k (pace k xs) = xs := by
  induction xs generalizing k with
  | nil => rfl
  | cons b bs ih =>
    unfold pace
    split
    next h =>
      subst h
      simp only [unpace]
      exact congrArg (b :: ·) (ih 0 (by omega))
    next h =>
      simp only [unpace, if_neg (show k ≠ 8 by omega)]
      exact congrArg (b :: ·) (ih (k + 1) (by omega))

/-- R99: the content bits in a first part of a line that begins with a paced region are the region's first ones. -/
theorem unpace_take (xs tail : List Bool) (k : Nat) (hk : k ≤ (pace 0 xs ++ tail).length) :
    ∃ rest, unpace 0 ((pace 0 xs ++ tail).take k) = (xs ++ rest).take (k - k / 9) := by
  refine ⟨unpace (paceState 0 (pace 0 xs)) tail, ?_⟩
  have hsplit := unpace_append 0 ((pace 0 xs ++ tail).take k) ((pace 0 xs ++ tail).drop k)
  rw [List.take_append_drop, unpace_append, unpace_pace 0 xs (by omega)] at hsplit
  have hlength : (unpace 0 ((pace 0 xs ++ tail).take k)).length = k - k / 9 := by
    rw [length_unpace 0 _ (by omega), List.length_take, Nat.min_eq_left hk, Nat.add_zero]
  rw [hsplit, ← hlength, List.take_left]

end Sys2Proof.Machine

/-! PROOFS. A frame read back from its bits, and the verdicts of a receiver and of a sender at each of them (R94 to R100,
R108 to R112). -/

namespace Sys2Proof.Machine

open Sys2Proof.Safety

/-! ### Fields -/

section
variable {w : WireFrame} {xs : List Bool} {m : Nat}

/-- The content bits of a frame, the check included (R95). -/
def framedBits (w : WireFrame) : List Bool := contentBits w ++ natBits 16 (crc (contentBits w)).toNat

theorem length_flatMap_byteBits (payload : List Byte) : (payload.flatMap byteBits).length = 8 * payload.length := by
  induction payload with
  | nil => rfl
  | cons b bs ih =>
    rw [List.flatMap_cons, List.length_append, ih, byteBits, length_natBits, List.length_cons]
    ring

theorem length_contentBits (w : WireFrame) : (contentBits w).length = 18 + 8 * w.payload.length := by
  unfold contentBits
  simp only [List.length_append, length_natBits, length_flatMap_byteBits]

theorem length_framedBits (w : WireFrame) : (framedBits w).length = 34 + 8 * w.payload.length := by
  unfold framedBits
  rw [List.length_append, length_contentBits, length_natBits]
  omega

theorem length_regionBits (w : WireFrame) : (regionBits w).length = regionLength w.payload.length := by
  have hlength := length_pace 0 (framedBits w) (by omega)
  rw [length_framedBits] at hlength
  refine hlength.trans ?_
  unfold regionLength
  omega

/-- The content bits read are a frame's first ones. -/
def ReadsOf (w : WireFrame) (xs : List Bool) (m : Nat) : Prop := ∃ rest, xs = (framedBits w ++ rest).take m

/-- A field lies at its place in what has been read. -/
theorem field_of_take {before field rest : List Bool} (h : before.length + field.length ≤ m)
    (hxs : xs = (before ++ field ++ rest).take m) : (xs.drop before.length).take field.length = field := by
  have hm : field.length ≤ m - before.length := by omega
  rw [hxs, List.drop_take, List.append_assoc, List.drop_left, List.take_take, Nat.min_eq_left hm, List.take_left]

theorem ReadsOf.tag (h : ReadsOf w xs m) (hm : 12 ≤ m) : xs.take 12 = natBits 12 w.tag.toNat := by
  obtain ⟨rest, hxs⟩ := h
  have hfield := field_of_take (before := []) (field := natBits 12 w.tag.toNat) (m := m)
    (by rw [length_natBits]; simpa using hm) (hxs.trans (by unfold framedBits contentBits; simp only [List.append_assoc]; rfl))
  rw [length_natBits] at hfield
  exact hfield

theorem ReadsOf.kind (h : ReadsOf w xs m) (hm : 14 ≤ m) : (xs.drop 12).take 2 = natBits 2 w.kind.toNat := by
  obtain ⟨rest, hxs⟩ := h
  have hfield := field_of_take (before := natBits 12 w.tag.toNat) (field := natBits 2 w.kind.toNat) (m := m)
    (by rw [length_natBits, length_natBits]; exact hm)
    (hxs.trans (by unfold framedBits contentBits; simp only [List.append_assoc]; rfl))
  rw [length_natBits, length_natBits] at hfield
  exact hfield

theorem ReadsOf.length (h : ReadsOf w xs m) (hm : 18 ≤ m) : (xs.drop 14).take 4 = natBits 4 w.payload.length := by
  obtain ⟨rest, hxs⟩ := h
  have hfield := field_of_take (before := natBits 12 w.tag.toNat ++ natBits 2 w.kind.toNat)
    (field := natBits 4 w.payload.length) (m := m)
    (by rw [List.length_append, length_natBits, length_natBits, length_natBits]; exact hm)
    (hxs.trans (by unfold framedBits contentBits; simp only [List.append_assoc]; rfl))
  rw [List.length_append, length_natBits, length_natBits, length_natBits] at hfield
  exact hfield

/-- A frame's content bits, cut around one payload byte. -/
theorem contentBits_around (w : WireFrame) {k : Nat} (hk : k < w.payload.length) :
    ∃ before after, before.length = 18 + 8 * k ∧ contentBits w = before ++ byteBits w.payload[k] ++ after := by
  have hpayload : w.payload.flatMap byteBits =
      (w.payload.take k).flatMap byteBits ++ (byteBits w.payload[k] ++ (w.payload.drop (k + 1)).flatMap byteBits) := by
    conv_lhs => rw [← List.take_append_drop k w.payload, List.drop_eq_getElem_cons hk]
    rw [List.flatMap_append, List.flatMap_cons]
  refine ⟨natBits 12 w.tag.toNat ++ natBits 2 w.kind.toNat ++ natBits 4 w.payload.length ++
    (w.payload.take k).flatMap byteBits, (w.payload.drop (k + 1)).flatMap byteBits, ?_, ?_⟩
  · simp only [List.length_append, length_natBits, length_flatMap_byteBits, List.length_take]
    omega
  · unfold contentBits
    rw [hpayload]
    simp only [List.append_assoc]

theorem ReadsOf.byte (h : ReadsOf w xs m) (hm : 18 + 8 * w.payload.length ≤ m) {k : Nat} (hk : k < w.payload.length) :
    (xs.drop (18 + 8 * k)).take 8 = byteBits w.payload[k] := by
  obtain ⟨rest, hxs⟩ := h
  obtain ⟨before, after, hbefore, hcontent⟩ := contentBits_around w hk
  have hbyte : (byteBits w.payload[k]).length = 8 := length_natBits _ _
  have hfield := field_of_take (before := before) (field := byteBits w.payload[k])
    (rest := after ++ (natBits 16 (crc (contentBits w)).toNat ++ rest)) (m := m) (by rw [hbefore, hbyte]; omega)
    (hxs.trans (by unfold framedBits; generalize natBits 16 _ = check; rw [hcontent]; simp only [List.append_assoc]))
  rw [hbefore, hbyte] at hfield
  exact hfield

theorem ReadsOf.content (h : ReadsOf w xs m) (hm : 18 + 8 * w.payload.length ≤ m) :
    xs.take (18 + 8 * w.payload.length) = contentBits w := by
  obtain ⟨rest, hxs⟩ := h
  have hfield := field_of_take (before := []) (field := contentBits w) (m := m)
    (by rw [length_contentBits]; simpa using hm) (hxs.trans (by unfold framedBits; rw [List.append_assoc]; rfl))
  rw [length_contentBits] at hfield
  exact hfield

theorem ReadsOf.check (h : ReadsOf w xs m) (hm : 34 + 8 * w.payload.length ≤ m) :
    (xs.drop (18 + 8 * w.payload.length)).take 16 = natBits 16 (crc (contentBits w)).toNat := by
  obtain ⟨rest, hxs⟩ := h
  have hfield := field_of_take (before := contentBits w) (field := natBits 16 (crc (contentBits w)).toNat) (m := m)
    (by rw [length_contentBits, length_natBits]; omega) hxs
  rw [length_contentBits, length_natBits] at hfield
  exact hfield

end

end Sys2Proof.Machine

/-! PROOFS. The verdicts of a receiver and of a sender at each bit of a legal frame (R94 to R100, R108 to R112). -/

namespace Sys2Proof.Machine

open Sys2Proof.Safety

/-! ### What has been read -/

section
variable {w : WireFrame} {bits : List Bool} {m : Nat}

theorem length_le_of_legal (h : w.legal = true) : w.payload.length ≤ 8 := by
  obtain ⟨tag, kind, payload⟩ := w
  unfold WireFrame.legal at h
  split at h
  next =>
    obtain ⟨_, hlength⟩ := Bool.and_eq_true_iff.mp h
    exact (beq_iff_eq.mp hlength).trans_le (by omega)
  next =>
    rw [List.isEmpty_iff.mp h]
    exact Nat.zero_le 8
  next => exact of_decide_eq_true h
  next => cases h

theorem readTag_of_readsOf (h : ReadsOf w (unpace 0 bits) m) (hm : 12 ≤ m) : readTag bits = w.tag := by
  unfold readTag
  rw [h.tag hm, bitsNat_natBits_bitVec, BitVec.ofNat_toNat, BitVec.setWidth_eq]

theorem readKind_of_readsOf (h : ReadsOf w (unpace 0 bits) m) (hm : 14 ≤ m) : readKind bits = w.kind := by
  unfold readKind
  rw [h.kind hm, bitsNat_natBits_bitVec, BitVec.ofNat_toNat, BitVec.setWidth_eq]

theorem readLength_of_readsOf (hlegal : w.legal = true) (h : ReadsOf w (unpace 0 bits) m) (hm : 18 ≤ m) :
    readLength bits = w.payload.length := by
  have hle := length_le_of_legal hlegal
  unfold readLength
  rw [h.length hm, bitsNat_natBits, Nat.mod_eq_of_lt (by omega)]

theorem readPayload_of_readsOf (hlegal : w.legal = true) (h : ReadsOf w (unpace 0 bits) m)
    (hm : 18 + 8 * w.payload.length ≤ m) : readPayload bits = w.payload := by
  unfold readPayload
  rw [readLength_of_readsOf hlegal h (by omega)]
  refine List.ext_getElem (by simp) fun k _ hk => ?_
  rw [List.getElem_map, List.getElem_range, h.byte hm hk, byteBits, bitsNat_natBits_bitVec, BitVec.ofNat_toNat,
    BitVec.setWidth_eq]

theorem readFrame_of_readsOf (hlegal : w.legal = true) (h : ReadsOf w (unpace 0 bits) m)
    (hm : 18 + 8 * w.payload.length ≤ m) : readFrame bits = w := by
  unfold readFrame
  rw [readTag_of_readsOf h (by omega), readKind_of_readsOf h (by omega), readPayload_of_readsOf hlegal h hm]

/-- R100: the check read is the check computed. -/
theorem readCheck_of_readsOf (hlegal : w.legal = true) (h : ReadsOf w (unpace 0 bits) m)
    (hm : 34 + 8 * w.payload.length ≤ m) : readCheck bits = (computedCheck bits).toNat := by
  unfold readCheck computedCheck
  rw [readLength_of_readsOf hlegal h (by omega), h.check hm, h.content (by omega), bitsNat_natBits_bitVec]

theorem kindIllegal_of_readsOf (hlegal : w.legal = true) (h : ReadsOf w (unpace 0 bits) m) (hm : 14 ≤ m) :
    kindIllegal bits = false := by
  unfold kindIllegal
  rw [readKind_of_readsOf h hm, readTag_of_readsOf h (by omega)]
  obtain ⟨tag, kind, payload⟩ := w
  unfold WireFrame.legal at hlegal
  split at hlegal
  next =>
    simp only [Bool.and_eq_true, beq_iff_eq] at hlegal
    simp_all
  next => simp_all
  next => simp_all
  next => cases hlegal

theorem lengthIllegal_of_readsOf (hlegal : w.legal = true) (h : ReadsOf w (unpace 0 bits) m) (hm : 18 ≤ m) :
    lengthIllegal bits = false := by
  unfold lengthIllegal
  rw [readKind_of_readsOf h (by omega), readLength_of_readsOf hlegal h hm]
  obtain ⟨tag, kind, payload⟩ := w
  unfold WireFrame.legal at hlegal
  split at hlegal
  next => simp_all
  next => simp_all
  next => simp_all
  next => cases hlegal

end

/-! ### A frame on the line -/

/-- What a receiver reads of a frame on the line: paced region, ack slot, ack delimiter, end field (R95). -/
def heardBits (w : WireFrame) (ack : Bool) : List Bool := regionBits w ++ [ack, true] ++ List.replicate 8 true

section
variable (w : WireFrame) (ack : Bool)

theorem length_heardBits : (heardBits w ack).length = regionLength w.payload.length + 10 := by
  unfold heardBits
  simp only [List.length_append, length_regionBits, List.length_cons, List.length_nil, List.length_replicate]

theorem heardBits_eq_append : heardBits w ack = regionBits w ++ ack :: List.replicate 9 true := by
  unfold heardBits
  rw [List.append_assoc]
  rfl

theorem heardBits_in_region {i : Nat} (hi : i < regionLength w.payload.length) :
    (heardBits w ack).getD i true = (regionBits w).getD i true := by
  rw [heardBits_eq_append, List.getD_append _ _ _ _ (by rw [length_regionBits]; exact hi)]

theorem heardBits_ack : (heardBits w ack).getD (regionLength w.payload.length) true = ack := by
  rw [heardBits_eq_append, ← length_regionBits, List.getD_append_right _ _ _ _ le_rfl, Nat.sub_self]
  rfl

theorem heardBits_after_ack {i : Nat} (hi : regionLength w.payload.length < i) : (heardBits w ack).getD i true = true := by
  rw [heardBits_eq_append, List.getD_append_right _ _ _ _ (by rw [length_regionBits]; omega), length_regionBits]
  obtain ⟨j, hj⟩ : ∃ j, i - regionLength w.payload.length = j + 1 := ⟨i - regionLength w.payload.length - 1, by omega⟩
  rw [hj, List.getD_cons_succ]
  simp only [List.getD_eq_getElem?_getD, List.getElem?_replicate]
  split <;> rfl

/-- R98: in a region heard, a pace bit is the inverse of the bit before it. -/
theorem heardBits_pace {i : Nat} (hi : i < regionLength w.payload.length) (hpace : i % 9 = 8) :
    (heardBits w ack).getD i true = !(heardBits w ack).getD (i - 1) true := by
  obtain ⟨j, rfl⟩ : ∃ j, i = j + 1 := ⟨i - 1, by omega⟩
  rw [heardBits_in_region w ack hi, heardBits_in_region w ack (by omega), Nat.add_sub_cancel]
  exact pace_inverts 0 j _ (by omega) (by rw [← length_regionBits] at hi; exact hi) (by omega)

/-- R99: what a receiver has read after `k` bits. -/
theorem readsOf_heardBits {k : Nat} (hk : k ≤ regionLength w.payload.length + 10) :
    ReadsOf w (unpace 0 ((heardBits w ack).take k)) (k - k / 9) := by
  have hlength := length_heardBits w ack
  rw [heardBits_eq_append] at hlength ⊢
  exact unpace_take (framedBits w) _ k (le_trans hk hlength.ge)

theorem length_take_heardBits {i : Nat} (hi : i < regionLength w.payload.length + 10) :
    ((heardBits w ack).take (i + 1)).length = i + 1 := by
  rw [List.length_take, length_heardBits]
  omega

end

theorem getD_take_of_lt {xs : List Bool} {i k : Nat} (h : i < k) : (xs.take k).getD i true = xs.getD i true := by
  rw [List.getD_eq_getElem?_getD, List.getElem?_take_of_lt h, ← List.getD_eq_getElem?_getD]

/-! ### A receiver -/

section
variable {bits : List Bool} {i : Nat}

/-- A receiver goes on in the paced region when each of its checks holds. -/
theorem receiverVerdict_in_region (hlength : bits.length = i + 1) (hi : i < regionLength (readLength bits))
    (hpace : i % 9 = 8 → bits.getD i true = !bits.getD (i - 1) true)
    (hkind : i - i / 9 = 13 → i % 9 ≠ 8 → kindIllegal bits = false)
    (hlen : i - i / 9 = 17 → i % 9 ≠ 8 → lengthIllegal bits = false)
    (hcheck : i + 1 = regionLength (readLength bits) → readCheck bits = (computedCheck bits).toNat) :
    receiverVerdict bits = .more := by
  unfold receiverVerdict
  simp only [hlength, Nat.add_sub_cancel, if_pos hi]
  by_cases h8 : i % 9 = 8
  · rw [if_pos h8, hpace h8, if_neg (by simp)]
  · rw [if_neg h8, if_neg, if_neg, if_neg]
    · intro h
      obtain ⟨hend, hne⟩ := Bool.and_eq_true_iff.mp h
      exact absurd (hcheck (of_decide_eq_true hend)) (bne_iff_ne.mp hne)
    · intro h
      obtain ⟨hat, hillegal⟩ := Bool.and_eq_true_iff.mp h
      rw [hlen (of_decide_eq_true hat) h8] at hillegal
      cases hillegal
    · intro h
      obtain ⟨hat, hillegal⟩ := Bool.and_eq_true_iff.mp h
      rw [hkind (of_decide_eq_true hat) h8] at hillegal
      cases hillegal

theorem receiverVerdict_at_ack (hlength : bits.length = i + 1) (hi : i = regionLength (readLength bits)) :
    receiverVerdict bits = .more := by
  unfold receiverVerdict
  simp only [hlength, Nat.add_sub_cancel, if_neg (show ¬ i < regionLength (readLength bits) by omega), if_pos hi]

theorem receiverVerdict_after_ack (hlength : bits.length = i + 1) (hi : regionLength (readLength bits) < i)
    (hlast : bits.getD i true = true) :
    receiverVerdict bits = if i = regionLength (readLength bits) + 9 then .complete else .more := by
  unfold receiverVerdict
  simp only [hlength, Nat.add_sub_cancel, if_neg (show ¬ i < regionLength (readLength bits) by omega),
    if_neg (show ¬ i = regionLength (readLength bits) by omega), hlast]
  rfl

end

section
variable {w : WireFrame} {ack : Bool} {i : Nat}

/-- In the paced region of a legal frame a receiver goes on. Until the length is read its region is taken from the part
read, and every region is longer than that. -/
theorem receiverVerdict_heard_region (hlegal : w.legal = true) (hi : i < regionLength w.payload.length) :
    receiverVerdict ((heardBits w ack).take (i + 1)) = .more := by
  have hreads := readsOf_heardBits w ack (k := i + 1) (by omega)
  have hlength : 19 ≤ i → readLength ((heardBits w ack).take (i + 1)) = w.payload.length :=
    fun h => readLength_of_readsOf hlegal hreads (by omega)
  have hregion : i < 19 → i + 1 < regionLength (readLength ((heardBits w ack).take (i + 1))) :=
    fun h => by unfold regionLength; omega
  refine receiverVerdict_in_region (length_take_heardBits w ack (by omega)) ?_ ?_ ?_ ?_ ?_
  · by_cases h : 19 ≤ i
    · rw [hlength h]
      exact hi
    · have := hregion (by omega)
      omega
  · intro h8
    rw [getD_take_of_lt (by omega), getD_take_of_lt (by omega)]
    exact heardBits_pace w ack hi h8
  · exact fun hat h8 => kindIllegal_of_readsOf hlegal hreads (by omega)
  · exact fun hat h8 => lengthIllegal_of_readsOf hlegal hreads (by omega)
  · intro hend
    have h : 19 ≤ i := by
      by_contra h
      have := hregion (by omega)
      omega
    rw [hlength h] at hend
    unfold regionLength at hend
    exact readCheck_of_readsOf hlegal hreads (by omega)

/-- At each bit of a legal frame a receiver goes on, and at the last one the frame is complete. -/
theorem receiverVerdict_heard (hlegal : w.legal = true) (hi : i < regionLength w.payload.length + 10) :
    receiverVerdict ((heardBits w ack).take (i + 1)) =
      if i = regionLength w.payload.length + 9 then .complete else .more := by
  by_cases hin : i < regionLength w.payload.length
  · rw [receiverVerdict_heard_region hlegal hin, if_neg (by omega)]
  have h38 : 38 ≤ regionLength w.payload.length := by
    unfold regionLength
    omega
  have hread : readLength ((heardBits w ack).take (i + 1)) = w.payload.length :=
    readLength_of_readsOf hlegal (readsOf_heardBits w ack (by omega)) (by omega)
  have hlength := length_take_heardBits w ack hi
  by_cases hat : i = regionLength w.payload.length
  · rw [receiverVerdict_at_ack hlength (by rw [hread]; exact hat), if_neg (by omega)]
  · have hlast := heardBits_after_ack w ack (i := i) (by omega)
    rw [← getD_take_of_lt (Nat.lt_succ_self i)] at hlast
    rw [receiverVerdict_after_ack hlength (by rw [hread]; omega) hlast, hread]

end

/-- Settles O48, bit by bit: the fields of a legal frame are read back where the checks look at them. -/
theorem receiverReadsFrame : Obligations.ReceiverReadsFrame := by
  unfold Obligations.ReceiverReadsFrame
  intro w ack hlegal
  have hlength := length_heardBits w ack
  refine ⟨fun k hpos hk => ?more, ?complete, ?frame⟩
  case more =>
    obtain ⟨i, rfl⟩ : ∃ i, k = i + 1 := ⟨k - 1, by omega⟩
    have hi : i + 1 < regionLength w.payload.length + 10 := hlength ▸ hk
    exact (receiverVerdict_heard hlegal (by omega)).trans (if_neg (by omega))
  case complete =>
    have hlast := receiverVerdict_heard (ack := ack) hlegal (i := regionLength w.payload.length + 9) (by omega)
    rw [if_pos rfl, List.take_of_length_le (by omega)] at hlast
    exact hlast
  case frame =>
    have hreads := readsOf_heardBits w ack le_rfl
    rw [List.take_of_length_le (by omega)] at hreads
    exact readFrame_of_readsOf hlegal hreads (by unfold regionLength; omega)

/-! ### A sender -/

section
variable {w : WireFrame} {bits : List Bool} {i : Nat}

/-- A sender that reads back in the paced region what it sent goes on. -/
theorem senderVerdict_in_region (hlength : bits.length = i + 1) (hi : i < regionLength w.payload.length)
    (hback : bits.getD i true = (lineBits w).getD i true) : senderVerdict w bits = .more := by
  unfold senderVerdict
  simp only [hlength, Nat.add_sub_cancel, if_pos hi, hback, beq_self_eq_true, if_true]

/-- R110: the ack slot decides NO_ACK. -/
theorem senderVerdict_at_ack (hlength : bits.length = regionLength w.payload.length + 1) :
    senderVerdict w bits =
      if bits.getD (regionLength w.payload.length) true = true then .error .noAck else .more := by
  unfold senderVerdict
  simp only [hlength, Nat.add_sub_cancel, if_neg (lt_irrefl _), if_true]

theorem senderVerdict_after_ack (hlength : bits.length = i + 1) (hi : regionLength w.payload.length < i)
    (hlast : bits.getD i true = true) :
    senderVerdict w bits = if i = regionLength w.payload.length + 9 then .complete else .more := by
  unfold senderVerdict
  simp only [hlength, Nat.add_sub_cancel, if_neg (show ¬ i < regionLength w.payload.length by omega),
    if_neg (show ¬ i = regionLength w.payload.length by omega), hlast]
  rfl

/-- A sender whose frame is acknowledged goes on at each bit, and at the last one its frame is complete. -/
theorem senderVerdict_heard (w : WireFrame) (hi : i < regionLength w.payload.length + 10) :
    senderVerdict w ((heardBits w false).take (i + 1)) =
      if i = regionLength w.payload.length + 9 then .complete else .more := by
  have hlength := length_take_heardBits w false hi
  have hlast := getD_take_of_lt (xs := heardBits w false) (Nat.lt_succ_self i)
  rcases lt_trichotomy i (regionLength w.payload.length) with hin | rfl | hafter
  case inl =>
    have hback : (heardBits w false).getD i true = (lineBits w).getD i true :=
      (heardBits_in_region w false hin).trans (heardBits_in_region w true hin).symm
    rw [senderVerdict_in_region hlength hin (hlast.trans hback), if_neg (by omega)]
  case inr.inl =>
    rw [senderVerdict_at_ack hlength, hlast, heardBits_ack, if_neg Bool.false_ne_true, if_neg (by omega)]
  case inr.inr =>
    exact senderVerdict_after_ack hlength hafter (hlast.trans (heardBits_after_ack w false hafter))

/-- R110: without an acknowledgement a sender meets NO_ACK at the ack slot. -/
theorem senderVerdict_not_acknowledged (w : WireFrame) : senderVerdict w (regionBits w ++ [true]) = .error .noAck := by
  have hslot : (regionBits w ++ [true]).getD (regionLength w.payload.length) true = true := by
    rw [← length_regionBits, List.getD_append_right _ _ _ _ le_rfl, Nat.sub_self]
    rfl
  rw [senderVerdict_at_ack (by rw [List.length_append, length_regionBits]; rfl), if_pos hslot]

end

/-- Settles O49, bit by bit: the region reads back as sent, and the ack slot decides. -/
theorem senderCompletesWhenAcknowledged : Obligations.SenderCompletesWhenAcknowledged := by
  unfold Obligations.SenderCompletesWhenAcknowledged
  intro w _
  have hlength := length_heardBits w false
  refine ⟨fun k hpos hk => ?more, ?complete, senderVerdict_not_acknowledged w⟩
  case more =>
    obtain ⟨i, rfl⟩ : ∃ i, k = i + 1 := ⟨k - 1, by omega⟩
    have hi : i + 1 < regionLength w.payload.length + 10 := hlength ▸ hk
    exact (senderVerdict_heard w (by omega)).trans (if_neg (by omega))
  case complete =>
    have hlast := senderVerdict_heard w (i := regionLength w.payload.length + 9) (by omega)
    rw [if_pos rfl, List.take_of_length_le (by omega)] at hlast
    exact hlast

end Sys2Proof.Machine
